-- ==== Sys2Proof/Word.lean ====
section
/-! DEFINITION. Word.lean: the widths of the block. Addresses are 24 bits, a read result 16 bits, a write word and a
decoded transaction 32 bits (00_scope.md R7, rows `ADDR_W`, `DATA_W`, `WORD_W`; 30_encoding.md R51). -/

namespace Sys2Proof

/-- One byte of a storage unit (20_memory.md R30: "The byte is 8 bits"). -/
abbrev Byte := BitVec 8

/-- The value a bus read returns (00_scope.md R7 `DATA_W`). -/
abbrev Word := BitVec 16

/-- A write word, an X-format word or a T-format word (00_scope.md R7 `WORD_W`; 30_encoding.md R50, R51). -/
abbrev Word32 := BitVec 32

/-- A byte address of the CPU, or an offset from the start of a table entry (00_scope.md R7 `ADDR_W`; R54). -/
abbrev Addr := BitVec 24

end Sys2Proof
end

