-- ==== Sys2Proof/Config.lean ====
section
/-! DEFINITION. Config.lean: what a configuration of the block fixes (00_scope.md R2, R3, R7; 44_dispatcher.md R120;
30_encoding.md R52; 10_state.md R16), as plain data, and the free values: constants without a body, one for each value
the spec calls a draw or leaves to a parameter that is a function. A `Config` is carried by the state and no operation
changes it, so a statement about every state is a statement about every configuration. -/

namespace Sys2Proof

/-- The five variants, one per title (00_scope.md R2). -/
inductive Variant where
  | dfeveron
  | ddonpach
  | esprade
  | guwange
  | uopoko
  deriving DecidableEq, Repr

/-- The two cause-register read protocols (00_scope.md R3, column PROTO). -/
inductive Proto where
  | std
  | alt
  deriving DecidableEq, Repr

/-- The two EEPROM control-write and input layouts (00_scope.md R3, column EE_KIND). -/
inductive Layout where
  | std
  | guw
  deriving DecidableEq, Repr

/-- The sixteen region kinds, in the order of their codes (30_encoding.md R52). -/
inductive RegionKind where
  | unmapped
  | rom
  | ram
  | spriteram
  | vram16
  | vram8
  | palette
  | videoregs
  | layerctrl
  | sound
  | eepromStd
  | eepromGuw
  | inputStd
  | inputGuw
  | irqcauseStd
  | irqcauseAlt
  deriving DecidableEq, Repr

/-- The kinds of storage unit (10_state.md R16). -/
inductive UnitKind where
  | rom
  | ram
  | spriteram
  | vram
  | palette
  | videoregs
  | layerctrl
  deriving DecidableEq, Repr

/-- A storage unit's id: its kind and its index within the kind; for `vram` and `layerctrl` the index is the layer
(10_state.md R16; 30_encoding.md R52, column "unit index means"). -/
structure UnitId where
  kind : UnitKind
  ix   : Nat
  deriving DecidableEq, Repr

/-- One row of `UNITS(v)`: a unit and its size in bytes (10_state.md R16). -/
structure UnitDecl where
  id   : UnitId
  size : Nat
  deriving DecidableEq, Repr

/-- One entry of a range table, `stop` inclusive (44_dispatcher.md R120). Bounds are natural numbers so that check WF1
has something to refuse. `unit` is 0 and unused for the kinds that have no unit. -/
structure Entry where
  start : Nat
  stop  : Nat
  kind  : RegionKind
  unit  : Nat
  deriving DecidableEq, Repr

/-- Which EEPROM core is configured (42_eeprom.md R89): the reference core, or any other core, told apart by a number
whose behaviour is a family of free functions. -/
inductive CoreKind where
  | eeref
  | other (id : Nat)
  deriving DecidableEq, Repr

/-- Which tile-index function is configured (00_scope.md R7, row `TileIndex`): the default, or any other function of
the layer and the offset. -/
inductive TileRule where
  | divTileBytes
  | other (id : Nat)
  deriving DecidableEq, Repr

/-- One call of an EEPROM core's three setters (42_eeprom.md R89); `setclk` carries the old and the new level. -/
inductive CoreCall where
  | wrbit (b : Bool)
  | setcs (asserted : Bool)
  | setclk (old new : Bool)
  deriving DecidableEq, Repr

/-- A configuration (00_scope.md R7): the variant, its two range tables, its units and ROM contents, and the parameters
the spec leaves OPEN. -/
structure Config where
  /-- `VARIANT`. -/
  variant   : Variant
  /-- `RTAB(VARIANT)`. -/
  rtab      : List Entry
  /-- `WTAB(VARIANT)`. -/
  wtab      : List Entry
  /-- `UNITS(VARIANT)`. -/
  units     : List UnitDecl
  /-- `ROM(u)`: the bytes that are not 0x00, keyed as `Machine.byteAddr` keys the bytes of every unit. -/
  rom       : List (Nat × Byte)
  /-- `DDP_MIRROR_LAYER`. -/
  ddpMirrorLayer : Nat
  /-- `VRAM8_MASK`. -/
  vram8Mask : Addr
  /-- `TILE_BYTES`. -/
  tileBytes : Nat
  /-- `TileIndex`. -/
  tileRule  : TileRule
  /-- `IN1_OFF(GUWANGE)`, decided 2 and movable (92_eei_decisions.md D17). DESIGN CHOICE (log 19): any value, because the spec
  states no bound on it; at 0 or an odd value no bus read selects RD.IN.GUW.P1E. -/
  guwIn1Off : Addr
  /-- `IRQ_LINE_ID`; nothing in the block depends on it (60_exceptions.md R174). -/
  irqLineId : Nat
  /-- `EECORE`. -/
  eecore    : CoreKind
  /-- `NV_BYTES`. -/
  nvBytes   : Nat
  deriving DecidableEq, Repr

/-- DESIGN CHOICE (log 5): `draw16()`, the value of the n-th draw of a read no range contains (44_dispatcher.md R123;
93_implementation_defined.md U1). A free value: nothing can be proved of it. -/
opaque Config.drawWord : Nat → Word

/-- DESIGN CHOICE (log 6): `draw8()`, the byte at a storage address after the given reset and before any write
(10_state.md R16; 70_reset_and_hazards.md R190; U4). A free value. -/
opaque Config.drawByte (epoch address : Nat) : Byte

/-- DESIGN CHOICE (log 7): byte i of the EEPROM's array before the first EV.NVLOAD (70_reset_and_hazards.md R191; U5).
A free value. -/
opaque Config.drawNv : Nat → Byte

/-- DESIGN CHOICE (log 8): a tile-index function other than the default (00_scope.md R7 `TileIndex`). A free function. -/
opaque Config.otherTileIndex (id layer offset : Nat) : Nat

/-- DESIGN CHOICE (log 9): the serial state of another core after `init` (42_eeprom.md R89). A free function. -/
opaque Config.otherInit (id : Nat) (nv : List Byte) : Nat

/-- DESIGN CHOICE (log 9): the serial state of another core after one setter call (42_eeprom.md R89). -/
opaque Config.otherNext (id : Nat) (call : CoreCall) (nv : List Byte) (serial : Nat) : Nat

/-- DESIGN CHOICE (log 9): byte i of another core's array after one setter call (42_eeprom.md R89). -/
opaque Config.otherByte (id : Nat) (call : CoreCall) (nv : List Byte) (serial i : Nat) : Byte

/-- DESIGN CHOICE (log 9): `rdbit` of another core (42_eeprom.md R89). -/
opaque Config.otherOut (id : Nat) (nv : List Byte) (serial : Nat) : Bool

end Sys2Proof
end

