-- ==== Sys2Proof/Syntax.lean ====
section
/-! DEFINITION. Syntax.lean: the operations of the block, one constructor per row of spec/opcode_table.json
(30_encoding.md R60). Operands are the spec's: the unit index and the offset the dispatcher hands over, and the write
word (R51: they "travel beside" the decoded word). A row whose mask fixes the whole offset has no offset operand. -/

namespace Sys2Proof

/-- A decoded transaction as it leaves the dispatcher (30_encoding.md R51): the T-format word, and beside it the unit
index of the matching entry and the write word. -/
structure Txn where
  t    : Word32
  unit : Nat
  w    : Word32
  deriving DecidableEq, Repr

/-- The operations (30_encoding.md R60), in the table's order. -/
inductive Instr where
  | rdCauseStdAckv
  | rdCauseStdAcku
  | rdCauseStdPeek (off : Addr)
  | rdCauseStdOor (off : Addr)
  | rdCauseAltAckv
  | rdCauseAltPeek (off : Addr)
  | rdCauseAltOor (off : Addr)
  | rdInStdP0
  | rdInStdP1e
  | rdInStdZero (off : Addr)
  | rdInGuwP0
  | rdInGuwP1e
  | rdInGuwZero (off : Addr)
  | rdRom (u : Nat) (off : Addr)
  | rdRam (u : Nat) (off : Addr)
  | rdSpriteram (u : Nat) (off : Addr)
  | rdVram16 (layer : Nat) (off : Addr)
  | rdVram8 (layer : Nat) (off : Addr)
  | rdPalette (u : Nat) (off : Addr)
  | rdVideoregs (u : Nat) (off : Addr)
  | rdLayerctrl (layer : Nat) (off : Addr)
  | rdSndStatus (off : Addr)
  | rdUnmapped (addr : Addr)
  /-- The read catch-all; its operand is all of `T[29:0]` (R61 (b)). -/
  | rdRsvd (bits : BitVec 30)
  | wrRom (u : Nat) (off : Addr) (w : Word32)
  | wrRam (u : Nat) (off : Addr) (w : Word32)
  | wrSpriteram (u : Nat) (off : Addr) (w : Word32)
  | wrVram16 (layer : Nat) (off : Addr) (w : Word32)
  | wrVram8 (layer : Nat) (off : Addr) (w : Word32)
  | wrPalette (u : Nat) (off : Addr) (w : Word32)
  | wrVideoregs (u : Nat) (off : Addr) (w : Word32)
  | wrLayerctrl (layer : Nat) (off : Addr) (w : Word32)
  | wrSndReg (off : Addr) (w : Word32)
  | wrSndData (off : Addr) (w : Word32)
  | wrEeStd (off : Addr) (w : Word32)
  | wrEeGuw (off : Addr) (w : Word32)
  | wrUnmapped (addr : Addr) (w : Word32)
  /-- The write catch-all; its operand is all of `T[29:0]` (R61 (b)). -/
  | wrRsvd (bits : BitVec 30) (w : Word32)
  | evReset
  | evVblank
  | evSndirq (active : Bool)
  | evUnknown
  | evRender
  /-- `hasImage` is the event's argument bit; the image itself travels beside the event (R53; 46_nvram_host.md R160). -/
  | evNvload (hasImage : Bool)
  | evNvsave
  deriving DecidableEq, Repr

end Sys2Proof
end

