-- ==== Sys2Proof/WellFormed.lean ====
section
/-! DEFINITION. WellFormed.lean: which terms of `Instr` are the reading of a transaction the interface can carry
(30_encoding.md R51, R60, R61; 20_memory.md R34). The checks of a configuration (44_dispatcher.md R122, WF1 to WF9) stand
in Machine/Configuration.lean. -/

namespace Sys2Proof

/-- 20_memory.md R34: every transaction address, and with it every offset, is even. -/
def evenOff (off : Addr) : Bool := !off.getLsbD 0

/-- 30_encoding.md R61 (b): the 30 bits of a reserved read: `T[25:24]` is not zero, or the region code is
`EEPROM_STD` (10) or `EEPROM_GUW` (11). -/
def rsvdRead (bits : BitVec 30) : Bool :=
  bits.extractLsb' 24 2 != 0 || bits.extractLsb' 26 4 == 10 || bits.extractLsb' 26 4 == 11

/-- 30_encoding.md R61 (b): the 30 bits of a reserved write: `T[25:24]` is not zero, or the region code is one of the
two input codes (12, 13) or the two cause codes (14, 15). -/
def rsvdWrite (bits : BitVec 30) : Bool :=
  bits.extractLsb' 24 2 != 0 || bits.extractLsb' 26 4 == 12 || bits.extractLsb' 26 4 == 13
    || bits.extractLsb' 26 4 == 14 || bits.extractLsb' 26 4 == 15

/-- The operands each row of the operation map leaves over from the more specific rows before it (30_encoding.md R60).
`in1` is `IN1_OFF(GUWANGE)`, with which the two Guwange input rows move. -/
def Instr.wf (in1 : Addr) : Instr → Bool
  | .rdCauseStdAckv => true
  | .rdCauseStdAcku => true
  | .rdCauseStdPeek off => off == 0 || off == 2
  | .rdCauseStdOor off => evenOff off && 8 ≤ off.toNat
  | .rdCauseAltAckv => true
  | .rdCauseAltPeek off => off == 2 || off == 4 || off == 6
  | .rdCauseAltOor off => evenOff off && 8 ≤ off.toNat
  | .rdInStdP0 => true
  | .rdInStdP1e => true
  | .rdInStdZero off => evenOff off && off != 0 && off != 2
  | .rdInGuwP0 => true
  | .rdInGuwP1e => evenOff in1 && in1 != 0
  | .rdInGuwZero off => evenOff off && off != 0 && off != in1
  | .rdRom _ off => evenOff off
  | .rdRam _ off => evenOff off
  | .rdSpriteram _ off => evenOff off
  | .rdVram16 _ off => evenOff off
  | .rdVram8 _ off => evenOff off
  | .rdPalette _ off => evenOff off
  | .rdVideoregs _ off => evenOff off
  | .rdLayerctrl _ off => evenOff off
  | .rdSndStatus off => evenOff off
  | .rdUnmapped addr => evenOff addr
  | .rdRsvd bits => rsvdRead bits && !bits.getLsbD 0
  | .wrRom _ off _ => evenOff off
  | .wrRam _ off _ => evenOff off
  | .wrSpriteram _ off _ => evenOff off
  | .wrVram16 _ off _ => evenOff off
  | .wrVram8 _ off _ => evenOff off
  | .wrPalette _ off _ => evenOff off
  | .wrVideoregs _ off _ => evenOff off
  | .wrLayerctrl _ off _ => evenOff off
  | .wrSndReg off _ => evenOff off && !off.getLsbD 1
  | .wrSndData off _ => evenOff off && off.getLsbD 1
  | .wrEeStd off _ => evenOff off
  | .wrEeGuw off _ => evenOff off
  | .wrUnmapped addr _ => evenOff addr
  | .wrRsvd bits _ => rsvdWrite bits && !bits.getLsbD 0
  | .evReset => true
  | .evVblank => true
  | .evSndirq _ => true
  | .evUnknown => true
  | .evRender => true
  | .evNvload _ => true
  | .evNvsave => true

end Sys2Proof
end

