-- ==== Sys2Proof/Decode.lean ====
section
/-! DEFINITION. Decode.lean: from a decoded transaction (T-format word, unit index, write word) to an operation and back
(30_encoding.md R51, R52, R53, R60, R61). `opTable` is the spec's table; `decode` reads the fields of `T`; that the two
agree is a statement of Certificates/Slice0/Obligations.lean. -/

namespace Sys2Proof

/-- Why a T-format word is no operation (30_encoding.md R61 (g)): "never presented; a model refuses them". -/
inductive DecodeError where
  /-- Kind `0b11` (R50, R61 (g)). -/
  | reservedKind
  /-- Event code 7 to 15 (R53, R61 (g)). -/
  | reservedEvent (code : Nat)
  deriving DecidableEq, Repr

/-- The 4-bit code of a region kind (30_encoding.md R52). -/
def RegionKind.code : RegionKind → BitVec 4
  | .unmapped => 0
  | .rom => 1
  | .ram => 2
  | .spriteram => 3
  | .vram16 => 4
  | .vram8 => 5
  | .palette => 6
  | .videoregs => 7
  | .layerctrl => 8
  | .sound => 9
  | .eepromStd => 10
  | .eepromGuw => 11
  | .inputStd => 12
  | .inputGuw => 13
  | .irqcauseStd => 14
  | .irqcauseAlt => 15

/-- The region kind a 4-bit code names (30_encoding.md R52: all sixteen codes are used). -/
def regionOfCode (c : BitVec 4) : RegionKind :=
  match c.toNat with
  | 0 => .unmapped
  | 1 => .rom
  | 2 => .ram
  | 3 => .spriteram
  | 4 => .vram16
  | 5 => .vram8
  | 6 => .palette
  | 7 => .videoregs
  | 8 => .layerctrl
  | 9 => .sound
  | 10 => .eepromStd
  | 11 => .eepromGuw
  | 12 => .inputStd
  | 13 => .inputGuw
  | 14 => .irqcauseStd
  | _ => .irqcauseAlt

/-- A T-format word from its four fields: kind 31:30, region or event code 29:26, zero 25:24, offset 23:0
(30_encoding.md R51). -/
def mkT (kind : BitVec 2) (code : BitVec 4) (zero : BitVec 2) (off : Addr) : Word32 :=
  kind ++ code ++ zero ++ off

/-- `T[31:30]`: 0 read, 1 write, 2 event, 3 reserved (30_encoding.md R50, R51). -/
def tKind (t : Word32) : BitVec 2 := t.extractLsb' 30 2

/-- `T[29:26]`: the region code or the event code (30_encoding.md R51). -/
def tCode (t : Word32) : BitVec 4 := t.extractLsb' 26 4

/-- `T[25:24]`, zero in every transaction the dispatcher forms (30_encoding.md R51). -/
def tZero (t : Word32) : BitVec 2 := t.extractLsb' 24 2

/-- `T[23:0]`: the offset (30_encoding.md R51). -/
def tOff (t : Word32) : Addr := t.extractLsb' 0 24

/-- One row of the operation map: its number, its match and its mask (30_encoding.md R60). -/
structure OpRow where
  num   : Nat
  value : Word32
  mask  : Word32
  deriving DecidableEq, Repr

/-- The operation map (30_encoding.md R60), in priority order; row 12 moves with `IN1_OFF(GUWANGE)`. -/
def opTable (in1 : Addr) : List OpRow :=
  [
    ⟨1, 0x38000004, 0xFFFFFFFF⟩,
    ⟨2, 0x38000006, 0xFFFFFFFF⟩,
    ⟨3, 0x38000000, 0xFFFFFFF9⟩,
    ⟨4, 0x38000000, 0xFF000000⟩,
    ⟨5, 0x3C000000, 0xFFFFFFFF⟩,
    ⟨6, 0x3C000000, 0xFFFFFFF9⟩,
    ⟨7, 0x3C000000, 0xFF000000⟩,
    ⟨8, 0x30000000, 0xFFFFFFFF⟩,
    ⟨9, 0x30000002, 0xFFFFFFFF⟩,
    ⟨10, 0x30000000, 0xFF000000⟩,
    ⟨11, 0x34000000, 0xFFFFFFFF⟩,
    ⟨12, 0x34000000 ||| in1.setWidth 32, 0xFFFFFFFF⟩,
    ⟨13, 0x34000000, 0xFF000000⟩,
    ⟨14, 0x04000000, 0xFF000000⟩,
    ⟨15, 0x08000000, 0xFF000000⟩,
    ⟨16, 0x0C000000, 0xFF000000⟩,
    ⟨17, 0x10000000, 0xFF000000⟩,
    ⟨18, 0x14000000, 0xFF000000⟩,
    ⟨19, 0x18000000, 0xFF000000⟩,
    ⟨20, 0x1C000000, 0xFF000000⟩,
    ⟨21, 0x20000000, 0xFF000000⟩,
    ⟨22, 0x24000000, 0xFF000000⟩,
    ⟨23, 0x00000000, 0xFF000000⟩,
    ⟨24, 0x00000000, 0xC0000000⟩,
    ⟨25, 0x44000000, 0xFF000000⟩,
    ⟨26, 0x48000000, 0xFF000000⟩,
    ⟨27, 0x4C000000, 0xFF000000⟩,
    ⟨28, 0x50000000, 0xFF000000⟩,
    ⟨29, 0x54000000, 0xFF000000⟩,
    ⟨30, 0x58000000, 0xFF000000⟩,
    ⟨31, 0x5C000000, 0xFF000000⟩,
    ⟨32, 0x60000000, 0xFF000000⟩,
    ⟨33, 0x64000000, 0xFF000002⟩,
    ⟨34, 0x64000002, 0xFF000002⟩,
    ⟨35, 0x68000000, 0xFF000000⟩,
    ⟨36, 0x6C000000, 0xFF000000⟩,
    ⟨37, 0x40000000, 0xFF000000⟩,
    ⟨38, 0x40000000, 0xC0000000⟩,
    ⟨39, 0x80000000, 0xFC000000⟩,
    ⟨40, 0x84000000, 0xFC000000⟩,
    ⟨41, 0x88000000, 0xFC000000⟩,
    ⟨42, 0x8C000000, 0xFC000000⟩,
    ⟨43, 0x90000000, 0xFC000000⟩,
    ⟨44, 0x94000000, 0xFC000000⟩,
    ⟨45, 0x98000000, 0xFC000000⟩
  ]

/-- "A decoded transaction `T` selects the *first* row ... for which `(T AND mask) = match`" (30_encoding.md R60). -/
def firstRow (in1 : Addr) (t : Word32) : Option Nat :=
  ((opTable in1).find? fun r => (t &&& r.mask) == r.value).map (·.num)

/-- The number of an operation's row in the operation map (30_encoding.md R60). -/
def Instr.rowNumber : Instr → Nat
  | .rdCauseStdAckv => 1
  | .rdCauseStdAcku => 2
  | .rdCauseStdPeek _ => 3
  | .rdCauseStdOor _ => 4
  | .rdCauseAltAckv => 5
  | .rdCauseAltPeek _ => 6
  | .rdCauseAltOor _ => 7
  | .rdInStdP0 => 8
  | .rdInStdP1e => 9
  | .rdInStdZero _ => 10
  | .rdInGuwP0 => 11
  | .rdInGuwP1e => 12
  | .rdInGuwZero _ => 13
  | .rdRom _ _ => 14
  | .rdRam _ _ => 15
  | .rdSpriteram _ _ => 16
  | .rdVram16 _ _ => 17
  | .rdVram8 _ _ => 18
  | .rdPalette _ _ => 19
  | .rdVideoregs _ _ => 20
  | .rdLayerctrl _ _ => 21
  | .rdSndStatus _ => 22
  | .rdUnmapped _ => 23
  | .rdRsvd _ => 24
  | .wrRom _ _ _ => 25
  | .wrRam _ _ _ => 26
  | .wrSpriteram _ _ _ => 27
  | .wrVram16 _ _ _ => 28
  | .wrVram8 _ _ _ => 29
  | .wrPalette _ _ _ => 30
  | .wrVideoregs _ _ _ => 31
  | .wrLayerctrl _ _ _ => 32
  | .wrSndReg _ _ => 33
  | .wrSndData _ _ => 34
  | .wrEeStd _ _ => 35
  | .wrEeGuw _ _ => 36
  | .wrUnmapped _ _ => 37
  | .wrRsvd _ _ => 38
  | .evReset => 39
  | .evVblank => 40
  | .evSndirq _ => 41
  | .evUnknown => 42
  | .evRender => 43
  | .evNvload _ => 44
  | .evNvsave => 45

/-- The reads of a region with `T[25:24] = 0` (30_encoding.md R60 rows 1 to 24). -/
def decodeRead (in1 : Addr) (d : Txn) : Instr :=
  let off := tOff d.t
  match regionOfCode (tCode d.t) with
  | .unmapped => .rdUnmapped off
  | .rom => .rdRom d.unit off
  | .ram => .rdRam d.unit off
  | .spriteram => .rdSpriteram d.unit off
  | .vram16 => .rdVram16 d.unit off
  | .vram8 => .rdVram8 d.unit off
  | .palette => .rdPalette d.unit off
  | .videoregs => .rdVideoregs d.unit off
  | .layerctrl => .rdLayerctrl d.unit off
  | .sound => .rdSndStatus off
  | .eepromStd => .rdRsvd (d.t.extractLsb' 0 30)
  | .eepromGuw => .rdRsvd (d.t.extractLsb' 0 30)
  | .inputStd =>
    if off = 0 then .rdInStdP0 else if off = 2 then .rdInStdP1e else .rdInStdZero off
  | .inputGuw =>
    if off = 0 then .rdInGuwP0 else if off = in1 then .rdInGuwP1e else .rdInGuwZero off
  | .irqcauseStd =>
    if off = 4 then .rdCauseStdAckv
    else if off = 6 then .rdCauseStdAcku
    else if off = 0 ∨ off = 2 then .rdCauseStdPeek off
    else .rdCauseStdOor off
  | .irqcauseAlt =>
    if off = 0 then .rdCauseAltAckv
    else if off = 2 ∨ off = 4 ∨ off = 6 then .rdCauseAltPeek off
    else .rdCauseAltOor off

/-- The writes of a region with `T[25:24] = 0` (30_encoding.md R60 rows 25 to 38; R59 for the sound ports). -/
def decodeWrite (d : Txn) : Instr :=
  let off := tOff d.t
  match regionOfCode (tCode d.t) with
  | .unmapped => .wrUnmapped off d.w
  | .rom => .wrRom d.unit off d.w
  | .ram => .wrRam d.unit off d.w
  | .spriteram => .wrSpriteram d.unit off d.w
  | .vram16 => .wrVram16 d.unit off d.w
  | .vram8 => .wrVram8 d.unit off d.w
  | .palette => .wrPalette d.unit off d.w
  | .videoregs => .wrVideoregs d.unit off d.w
  | .layerctrl => .wrLayerctrl d.unit off d.w
  | .sound => if off.getLsbD 1 then .wrSndData off d.w else .wrSndReg off d.w
  | .eepromStd => .wrEeStd off d.w
  | .eepromGuw => .wrEeGuw off d.w
  | .inputStd => .wrRsvd (d.t.extractLsb' 0 30) d.w
  | .inputGuw => .wrRsvd (d.t.extractLsb' 0 30) d.w
  | .irqcauseStd => .wrRsvd (d.t.extractLsb' 0 30) d.w
  | .irqcauseAlt => .wrRsvd (d.t.extractLsb' 0 30) d.w

/-- The events (30_encoding.md R53, R60 rows 39 to 45). The rows' masks leave `T[25:0]` open; bit 0 is the argument. -/
def decodeEvent (t : Word32) : Except DecodeError Instr :=
  match (tCode t).toNat with
  | 0 => .ok .evReset
  | 1 => .ok .evVblank
  | 2 => .ok (.evSndirq (t.getLsbD 0))
  | 3 => .ok .evUnknown
  | 4 => .ok .evRender
  | 5 => .ok (.evNvload (t.getLsbD 0))
  | 6 => .ok .evNvsave
  | n => .error (.reservedEvent n)

/-- The decoder: total on every decoded transaction, rejecting by name (30_encoding.md R60, R61). -/
def decode (in1 : Addr) (d : Txn) : Except DecodeError Instr :=
  match (tKind d.t).toNat with
  | 0 => .ok (if tZero d.t = 0 then decodeRead in1 d else .rdRsvd (d.t.extractLsb' 0 30))
  | 1 => .ok (if tZero d.t = 0 then decodeWrite d else .wrRsvd (d.t.extractLsb' 0 30) d.w)
  | 2 => decodeEvent d.t
  | _ => .error .reservedKind

/-- A read transaction of a region (30_encoding.md R51). -/
def readTxn (k : RegionKind) (u : Nat) (off : Addr) : Txn := ⟨mkT 0 k.code 0 off, u, 0⟩

/-- A write transaction of a region (30_encoding.md R51). -/
def writeTxn (k : RegionKind) (u : Nat) (off : Addr) (w : Word32) : Txn := ⟨mkT 1 k.code 0 off, u, w⟩

/-- An event transaction with its argument bit (30_encoding.md R50, R51, R53). -/
def eventTxn (code : BitVec 4) (arg : Bool) : Txn := ⟨mkT 2 code 0 (if arg then 1 else 0), 0, 0⟩

/-- The encoder: the transaction that stands for an operation (30_encoding.md R51, R52, R53, R60). -/
def encode (in1 : Addr) : Instr → Txn
  | .rdCauseStdAckv => readTxn .irqcauseStd 0 4
  | .rdCauseStdAcku => readTxn .irqcauseStd 0 6
  | .rdCauseStdPeek off => readTxn .irqcauseStd 0 off
  | .rdCauseStdOor off => readTxn .irqcauseStd 0 off
  | .rdCauseAltAckv => readTxn .irqcauseAlt 0 0
  | .rdCauseAltPeek off => readTxn .irqcauseAlt 0 off
  | .rdCauseAltOor off => readTxn .irqcauseAlt 0 off
  | .rdInStdP0 => readTxn .inputStd 0 0
  | .rdInStdP1e => readTxn .inputStd 0 2
  | .rdInStdZero off => readTxn .inputStd 0 off
  | .rdInGuwP0 => readTxn .inputGuw 0 0
  | .rdInGuwP1e => readTxn .inputGuw 0 in1
  | .rdInGuwZero off => readTxn .inputGuw 0 off
  | .rdRom u off => readTxn .rom u off
  | .rdRam u off => readTxn .ram u off
  | .rdSpriteram u off => readTxn .spriteram u off
  | .rdVram16 layer off => readTxn .vram16 layer off
  | .rdVram8 layer off => readTxn .vram8 layer off
  | .rdPalette u off => readTxn .palette u off
  | .rdVideoregs u off => readTxn .videoregs u off
  | .rdLayerctrl layer off => readTxn .layerctrl layer off
  | .rdSndStatus off => readTxn .sound 0 off
  | .rdUnmapped addr => readTxn .unmapped 0 addr
  | .rdRsvd bits => ⟨(0 : BitVec 2) ++ bits, 0, 0⟩
  | .wrRom u off w => writeTxn .rom u off w
  | .wrRam u off w => writeTxn .ram u off w
  | .wrSpriteram u off w => writeTxn .spriteram u off w
  | .wrVram16 layer off w => writeTxn .vram16 layer off w
  | .wrVram8 layer off w => writeTxn .vram8 layer off w
  | .wrPalette u off w => writeTxn .palette u off w
  | .wrVideoregs u off w => writeTxn .videoregs u off w
  | .wrLayerctrl layer off w => writeTxn .layerctrl layer off w
  | .wrSndReg off w => writeTxn .sound 0 off w
  | .wrSndData off w => writeTxn .sound 0 off w
  | .wrEeStd off w => writeTxn .eepromStd 0 off w
  | .wrEeGuw off w => writeTxn .eepromGuw 0 off w
  | .wrUnmapped addr w => writeTxn .unmapped 0 addr w
  | .wrRsvd bits w => ⟨(1 : BitVec 2) ++ bits, 0, w⟩
  | .evReset => eventTxn 0 false
  | .evVblank => eventTxn 1 false
  | .evSndirq active => eventTxn 2 active
  | .evUnknown => eventTxn 3 false
  | .evRender => eventTxn 4 false
  | .evNvload hasImage => eventTxn 5 hasImage
  | .evNvsave => eventTxn 6 false

/-- The transaction whose bits are `w`, as spec/opcode_table.json numbers them: bits 31:0 are the T-format word and bits
63:32 the write word beside it; the unit index is 0. -/
def txnOfBits (w : Nat) : Txn := ⟨BitVec.ofNat 32 w, 0, BitVec.ofNat 32 (w / 2 ^ 32)⟩

/-- What the decoder reads from the transaction whose bits are `w`, for the decided `IN1_OFF(GUWANGE) = 2` (30_encoding.md
R60). The table gives every row 32 bits; a shorter word is no transaction. -/
def decodeTableWord (nbits w : Nat) : Option Instr :=
  if nbits < 32 then none
  else
    match decode 2 (txnOfBits w) with
    | .ok i => some i
    | .error _ => none

end Sys2Proof
end

