-- ==== Sys2Proof/Machine/Memory.lean ====
section
/-! DEFINITION. Machine/Memory.lean: the bytes of the storage units as one list of (address, byte) pairs in canonical form:
addresses strictly rising. An unlisted address has no value here: the byte has not been written since the last reset, and
Ops.readByte then gives the free byte of that reset (10_state.md R16; 93_implementation_defined.md U4). -/

namespace Sys2Proof.Machine

open Sys2Proof

/-- The bytes written since the last reset (Host/Core.lean, `Host.Cell`). -/
abbrev Memory := List Host.Cell

/-- The canonical form: addresses strictly rising. No entry can equal what an unlisted address reads as, because an
unlisted address has no value (log 6). -/
def Memory.wf : Memory → Bool
  | [] => true
  | [_] => true
  | (a, _) :: (b, y) :: rest => Nat.blt a b && Memory.wf ((b, y) :: rest)

/-- The byte listed at an address, if one is. -/
def memFind : Memory → Nat → Option Byte
  | [], _ => none
  | (k, v) :: rest, a => if k = a then some v else memFind rest a

/-- List a byte at an address, keeping the canonical form. -/
def memStore : Memory → Nat → Byte → Memory
  | [], a, b => [(a, b)]
  | (k, v) :: rest, a, b =>
    if a < k then (a, b) :: (k, v) :: rest
    else if a = k then (a, b) :: rest
    else (k, v) :: memStore rest a b

/-- The place of a unit kind among the seven of 10_state.md R16. -/
def unitKindIx : UnitKind → Nat
  | .rom => 0
  | .ram => 1
  | .spriteram => 2
  | .vram => 3
  | .palette => 4
  | .videoregs => 5
  | .layerctrl => 6

/-- The one number that names byte `off` of unit `u`: different units and different offsets have different numbers, for
every offset. It is the model's own numbering (log 6); the spec's name for the byte is `unit[u][off]` (00_scope.md
section 9). -/
def byteAddr (u : UnitId) (off : Nat) : Nat := Nat.pair (7 * u.ix + unitKindIx u.kind) off

end Sys2Proof.Machine
end

