-- ==== Sys2Proof/Machine/Configuration.lean ====
section
/-! DEFINITION. Machine/Configuration.lean: what a variant fixes (00_scope.md R3), the checks of a configuration
(44_dispatcher.md R122, WF1 to WF9), what the tables of a variant contain (R127), and the spec's three example
configurations (95_test_vectors.md section 2). -/

namespace Sys2Proof.Machine

open Sys2Proof

/-- Column PROTO (00_scope.md R3). -/
def protoOf : Variant → Proto
  | .dfeveron => .std
  | .ddonpach => .alt
  | .esprade => .std
  | .guwange => .std
  | .uopoko => .std

/-- Column EE_KIND (00_scope.md R3). -/
def eeKindOf : Variant → Layout
  | .dfeveron => .std
  | .ddonpach => .std
  | .esprade => .std
  | .guwange => .guw
  | .uopoko => .std

/-- Column EE_DO_BIT (00_scope.md R3), by layout: 11 for the standard layout, 7 for Guwange (30_encoding.md R58). -/
def eeDoBitOf : Layout → Nat
  | .std => 11
  | .guw => 7

/-- Column NLAYERS (00_scope.md R3). -/
def nLayersOf : Variant → Nat
  | .dfeveron => 2
  | .ddonpach => 3
  | .esprade => 2
  | .guwange => 2
  | .uopoko => 2

/-- `IN1_OFF(v)` (00_scope.md R7): 2 for the standard layout; for `GUWANGE` the configured offset
(92_eei_decisions.md D17). -/
def in1OffOf (c : Config) : Addr :=
  match eeKindOf c.variant with
  | .std => 2
  | .guw => c.guwIn1Off

/-- The unit an entry names, for the kinds that have one (30_encoding.md R52, column "unit index means"). -/
def entryUnit (k : RegionKind) (u : Nat) : Option UnitId :=
  match k with
  | .unmapped => none
  | .rom => some ⟨.rom, u⟩
  | .ram => some ⟨.ram, u⟩
  | .spriteram => some ⟨.spriteram, u⟩
  | .vram16 => some ⟨.vram, u⟩
  | .vram8 => some ⟨.vram, u⟩
  | .palette => some ⟨.palette, u⟩
  | .videoregs => some ⟨.videoregs, u⟩
  | .layerctrl => some ⟨.layerctrl, u⟩
  | .sound => none
  | .eepromStd => none
  | .eepromGuw => none
  | .inputStd => none
  | .inputGuw => none
  | .irqcauseStd => none
  | .irqcauseAlt => none

/-- The size of a unit, if the configuration has it (10_state.md R16). -/
def unitSize (units : List UnitDecl) (u : UnitId) : Option Nat :=
  match units with
  | [] => none
  | d :: rest => if d.id = u then some d.size else unitSize rest u

/-- "may appear in RTAB" (30_encoding.md R52). -/
def readable : RegionKind → Bool
  | .unmapped => false
  | .eepromStd => false
  | .eepromGuw => false
  | .rom => true
  | .ram => true
  | .spriteram => true
  | .vram16 => true
  | .vram8 => true
  | .palette => true
  | .videoregs => true
  | .layerctrl => true
  | .sound => true
  | .inputStd => true
  | .inputGuw => true
  | .irqcauseStd => true
  | .irqcauseAlt => true

/-- "may appear in WTAB" (30_encoding.md R52). -/
def writable : RegionKind → Bool
  | .unmapped => false
  | .inputStd => false
  | .inputGuw => false
  | .irqcauseStd => false
  | .irqcauseAlt => false
  | .rom => true
  | .ram => true
  | .spriteram => true
  | .vram16 => true
  | .vram8 => true
  | .palette => true
  | .videoregs => true
  | .layerctrl => true
  | .sound => true
  | .eepromStd => true
  | .eepromGuw => true

/-- A relation that holds of every two entries of a table, in list order. -/
def pairwise (r : Entry → Entry → Bool) : List Entry → Bool
  | [] => true
  | e :: rest => rest.all (r e) && pairwise r rest

/-- WF1 bounds: `0 <= start <= end <= 0xFFFFFF` for every entry. -/
def wf1 (tab : List Entry) : Bool := tab.all fun e => Nat.ble e.start e.stop && Nat.ble e.stop 0xFFFFFF

/-- WF2 word granularity: `start` even and `end` odd for every entry. -/
def wf2 (tab : List Entry) : Bool := tab.all fun e => e.start % 2 == 0 && e.stop % 2 == 1

/-- Two entries have no address in common. -/
def disjoint (a b : Entry) : Bool := Nat.blt a.stop b.start || Nat.blt b.stop a.start

/-- WF3 no overlap: no two entries of one table contain a common address. -/
def wf3 (tab : List Entry) : Bool := pairwise disjoint tab

/-- WF4 direction: every entry's kind is allowed in its table's direction; `UNMAPPED` is never an entry. -/
def wf4 (allowed : RegionKind → Bool) (tab : List Entry) : Bool := tab.all fun e => allowed e.kind

/-- WF5 for one entry: the kinds of one variant only, and every layer index below `NLAYERS(v)`. DESIGN CHOICE (log 19): WF5
speaks of entries and no check of 44_dispatcher.md R122 speaks of `DDP_MIRROR_LAYER` itself, so a `DDONPACH` configuration
whose `DDP_MIRROR_LAYER` is not below `NLAYERS`, which maps no mirrored layer, is admitted; `routesVariant` does not hold of
it. -/
def wf5Entry (c : Config) (e : Entry) : Bool :=
  match e.kind with
  | .irqcauseAlt => c.variant == .ddonpach
  | .irqcauseStd => c.variant != .ddonpach
  | .eepromGuw => c.variant == .guwange
  | .inputGuw => c.variant == .guwange
  | .eepromStd => c.variant != .guwange
  | .inputStd => c.variant != .guwange
  | .vram8 => c.variant == .ddonpach && e.unit == c.ddpMirrorLayer && Nat.blt e.unit (nLayersOf c.variant)
  | .vram16 => Nat.blt e.unit (nLayersOf c.variant) && !(c.variant == .ddonpach && e.unit == c.ddpMirrorLayer)
  | .layerctrl => Nat.blt e.unit (nLayersOf c.variant)
  | .unmapped => true
  | .rom => true
  | .ram => true
  | .spriteram => true
  | .palette => true
  | .videoregs => true
  | .sound => true

/-- WF5 variant. -/
def wf5 (c : Config) (tab : List Entry) : Bool := tab.all (wf5Entry c)

/-- `VRAM8_MASK = 2^k - 1` with `k >= 1` (44_dispatcher.md R122 WF6). -/
def maskOk (m : Addr) : Bool := (List.range 24).any fun k => m.toNat + 1 == 2 ^ (k + 1)

/-- WF6 for one entry: its unit exists and is large enough; for `VRAM8`, exactly `VRAM8_MASK + 1` bytes. -/
def wf6Entry (c : Config) (e : Entry) : Bool :=
  match entryUnit e.kind e.unit with
  | none => true
  | some u =>
    match unitSize c.units u with
    | none => false
    | some n =>
      if e.kind = .vram8 then maskOk c.vram8Mask && n == c.vram8Mask.toNat + 1
      else Nat.ble (e.stop - e.start + 1) n

/-- WF6 backing. -/
def wf6 (c : Config) (tab : List Entry) : Bool := tab.all (wf6Entry c)

/-- Two entries do not name the same unit. -/
def otherUnit (a b : Entry) : Bool :=
  match entryUnit a.kind a.unit with
  | none => true
  | some u => entryUnit b.kind b.unit != some u

/-- WF7 single mapping: a unit is named by at most one entry of each table. -/
def wf7 (tab : List Entry) : Bool := pairwise otherUnit tab

/-- WF8 windows: an `INPUT_*` entry is at least `IN1_OFF(v) + 2` bytes long. It is the only check that names `IN1_OFF`. DESIGN
CHOICE (log 19): an `IN1_OFF(GUWANGE)` of 0 or of an odd value is admitted, and then no bus read reaches input port 1. -/
def wf8 (c : Config) (tab : List Entry) : Bool :=
  tab.all fun e =>
    if e.kind = .inputStd ∨ e.kind = .inputGuw then Nat.ble ((in1OffOf c).toNat + 2) (e.stop - e.start + 1)
    else true

/-- WF9 tile size: `TILE_BYTES >= 1`. -/
def wf9 (c : Config) : Bool := Nat.ble 1 c.tileBytes

/-- Unit ids are ids: no two rows of `UNITS(v)` name one unit (DEDUCED from 10_state.md R16, log 11). -/
def distinctUnits : List UnitDecl → Bool
  | [] => true
  | d :: rest => rest.all (fun e => e.id != d.id) && distinctUnits rest

/-- 10_state.md R16: every unit has "a size in bytes that is even and at least 2"; ids are distinct. DESIGN CHOICE (log 19): a
`VRAM` or `LAYERCTRL` unit whose layer is not below `NLAYERS(v)` is admitted, because WF5 speaks of the tables only; no entry
can name it, and EV.RENDER hands it over like every other unit (46_nvram_host.md R165). -/
def wfUnits (c : Config) : Bool :=
  c.units.all (fun d => d.size % 2 == 0 && Nat.ble 2 d.size) && distinctUnits c.units

/-- 42_eeprom.md R93: the reference core's array is 128 bytes. -/
def wfCore (c : Config) : Bool :=
  match c.eecore with
  | .eeref => c.nvBytes == 128
  | .other _ => true

/-- The checks that both tables of the variant must pass. -/
def wfTable (c : Config) (allowed : RegionKind → Bool) (tab : List Entry) : Bool :=
  wf1 tab && wf2 tab && wf3 tab && wf4 allowed tab && wf5 c tab && wf6 c tab && wf7 tab && wf8 c tab

/-- A configuration is well-formed (44_dispatcher.md R122; three further checks, log 11). DESIGN CHOICE (log 19): whatever these
checks do not name is admitted, among it `IN1_OFF(GUWANGE)` of 0 or an odd value, `DDP_MIRROR_LAYER` not below `NLAYERS`, and
units of a layer not below `NLAYERS`. -/
def configOk (c : Config) : Bool :=
  wfTable c readable c.rtab && wfTable c writable c.wtab && wf9 c && wfUnits c && wfCore c

/-- The cause-register kind of a variant (00_scope.md R3, column PROTO). -/
def causeKindOf (v : Variant) : RegionKind :=
  match protoOf v with
  | .std => .irqcauseStd
  | .alt => .irqcauseAlt

/-- The input kind of a variant (00_scope.md R3, column EE_KIND). -/
def inputKindOf (v : Variant) : RegionKind :=
  match eeKindOf v with
  | .std => .inputStd
  | .guw => .inputGuw

/-- The EEPROM control kind of a variant (00_scope.md R3, column EE_KIND). -/
def eepromKindOf (v : Variant) : RegionKind :=
  match eeKindOf v with
  | .std => .eepromStd
  | .guw => .eepromGuw

/-- The kinds without a layer that every variant routes for reads (44_dispatcher.md R127). That video registers and palette
are not among them is R127's last sentence; which of the other kinds R127 means for reads is DEDUCED (log 20). -/
def readKindsOf (v : Variant) : List RegionKind :=
  [.rom, .ram, .spriteram, .sound, inputKindOf v, causeKindOf v]

/-- The kinds without a layer that every variant routes for writes (44_dispatcher.md R127). ROM is not among them, because a
write table may leave it out (92_eei_decisions.md D33; DEDUCED, log 20). -/
def writeKindsOf (v : Variant) : List RegionKind :=
  [.ram, .spriteram, .palette, .videoregs, .sound, eepromKindOf v]

/-- The kind of a layer's VRAM: `VRAM8` for the mirrored layer of `DDONPACH`, `VRAM16` for every other (00_scope.md R3, column
VRAM8; 44_dispatcher.md R127). -/
def vramKindOf (c : Config) (layer : Nat) : RegionKind :=
  if c.variant = .ddonpach ∧ layer = c.ddpMirrorLayer then .vram8 else .vram16

/-- Some entry of the table has the kind. -/
def routes (tab : List Entry) (k : RegionKind) : Bool := tab.any fun e => e.kind == k

/-- Some entry of the table has the kind for the layer. -/
def routesLayer (tab : List Entry) (k : RegionKind) (layer : Nat) : Bool :=
  tab.any fun e => e.kind == k && e.unit == layer

/-- Every layer of the variant has its VRAM in both tables and its control block in the write table (44_dispatcher.md
R127). -/
def routesLayers (c : Config) : Bool :=
  (List.range (nLayersOf c.variant)).all fun layer =>
    routesLayer c.rtab (vramKindOf c layer) layer && routesLayer c.wtab (vramKindOf c layer) layer
      && routesLayer c.wtab .layerctrl layer

/-- The tables contain what 44_dispatcher.md R127 says every variant routes, all its layers among it, and the mirrored layer
of `DDONPACH` is one of them. No check of a configuration: R122 lists the checks, and R127 is not one of them (log 20). -/
def routesVariant (c : Config) : Bool :=
  (readKindsOf c.variant).all (routes c.rtab) && (writeKindsOf c.variant).all (routes c.wtab) && routesLayers c
    && (c.variant != .ddonpach || Nat.blt c.ddpMirrorLayer (nLayersOf c.variant))

/-- The entries common to both tables of the example maps, below the mirrored layer (95_test_vectors.md section 2). -/
def exCommonLow : List Entry :=
  [⟨0x000000, 0x00FFFF, .rom, 0⟩, ⟨0x100000, 0x100FFF, .ram, 0⟩, ⟨0x200000, 0x200FFF, .spriteram, 0⟩,
   ⟨0x300000, 0x300003, .sound, 0⟩, ⟨0x400000, 0x400FFF, .vram16, 0⟩, ⟨0x410000, 0x410FFF, .vram16, 1⟩]

/-- The entries common to both tables of the example maps, above the mirrored layer. -/
def exCommonHigh : List Entry :=
  [⟨0x500000, 0x5001FF, .palette, 0⟩, ⟨0x700000, 0x700005, .layerctrl, 0⟩, ⟨0x710000, 0x710005, .layerctrl, 1⟩]

/-- The units common to the example maps. -/
def exUnits : List UnitDecl :=
  [⟨⟨.rom, 0⟩, 0x10000⟩, ⟨⟨.ram, 0⟩, 0x1000⟩, ⟨⟨.spriteram, 0⟩, 0x1000⟩, ⟨⟨.vram, 0⟩, 0x1000⟩, ⟨⟨.vram, 1⟩, 0x1000⟩,
   ⟨⟨.palette, 0⟩, 0x200⟩, ⟨⟨.videoregs, 0⟩, 0x80⟩, ⟨⟨.layerctrl, 0⟩, 6⟩, ⟨⟨.layerctrl, 1⟩, 6⟩]

/-- `rom0[0..3] = 00 FF 12 34`, every other byte 0x00 (95_test_vectors.md section 2). -/
def exRom : Memory :=
  memStore (memStore (memStore [] (byteAddr ⟨.rom, 0⟩ 1) 0xFF) (byteAddr ⟨.rom, 0⟩ 2) 0x12) (byteAddr ⟨.rom, 0⟩ 3) 0x34

/-- `EXMAP_A`, variant `DFEVERON`, with the test defaults and `EEREF` (95_test_vectors.md section 2). The model's choice
for the machine at reset (log 4). -/
def exmapA : Config where
  variant := .dfeveron
  rtab := exCommonLow ++ exCommonHigh ++ [⟨0x600000, 0x600007, .irqcauseStd, 0⟩, ⟨0x800000, 0x800003, .inputStd, 0⟩]
  wtab := exCommonLow ++ exCommonHigh ++ [⟨0x600000, 0x60007F, .videoregs, 0⟩, ⟨0x900000, 0x900001, .eepromStd, 0⟩]
  units := exUnits
  rom := exRom
  ddpMirrorLayer := 2
  vram8Mask := 0x3FFF
  tileBytes := 4
  tileRule := .divTileBytes
  guwIn1Off := 2
  irqLineId := 0
  eecore := .eeref
  nvBytes := 128

/-- `EXMAP_G`, variant `GUWANGE` (95_test_vectors.md section 2). -/
def exmapG : Config :=
  { exmapA with
    variant := .guwange
    rtab := exCommonLow ++ exCommonHigh ++ [⟨0x600000, 0x600007, .irqcauseStd, 0⟩, ⟨0x800010, 0x800013, .inputGuw, 0⟩]
    wtab := exCommonLow ++ exCommonHigh ++ [⟨0x600000, 0x60007F, .videoregs, 0⟩, ⟨0x900000, 0x900001, .eepromGuw, 0⟩] }

/-- The mirrored layer and the third layer's control block of `EXMAP_D` (95_test_vectors.md section 2). -/
def exLayer2 : List Entry := [⟨0x420000, 0x42FFFF, .vram8, 2⟩, ⟨0x720000, 0x720005, .layerctrl, 2⟩]

/-- `EXMAP_D`, variant `DDONPACH` (95_test_vectors.md section 2). -/
def exmapD : Config :=
  { exmapA with
    variant := .ddonpach
    rtab := exCommonLow ++ exLayer2 ++ exCommonHigh
      ++ [⟨0x600000, 0x600007, .irqcauseAlt, 0⟩, ⟨0x800000, 0x800003, .inputStd, 0⟩]
    wtab := exCommonLow ++ exLayer2 ++ exCommonHigh
      ++ [⟨0x600000, 0x60007F, .videoregs, 0⟩, ⟨0x900000, 0x900001, .eepromStd, 0⟩]
    units := exUnits ++ [⟨⟨.vram, 2⟩, 0x4000⟩, ⟨⟨.layerctrl, 2⟩, 6⟩] }

end Sys2Proof.Machine
end

