-- ==== Sys2Proof/Machine/EepromCore.lean ====
section
/-! DEFINITION. Machine/EepromCore.lean: the EEPROM core behind the contract of 42_eeprom.md R89 and R90, and the
reference core EEREF (R93 to R104, which the spec marks as general knowledge). A core other than EEREF is a family of
free functions (Config.otherInit, otherNext, otherByte, otherOut): every core with a serial state that can be numbered
is one of them, so a statement about every configuration is a statement about every such core. -/

namespace Sys2Proof.Machine

open Sys2Proof

/-- The serial state of EEREF (42_eeprom.md R94), its array apart. -/
structure EeRef where
  /-- The command, address and data shift register, oldest bit first. -/
  sr      : List Bool
  sending : Bool
  /-- The output shift register. -/
  dout    : BitVec 17
  locked  : Bool
  di      : Bool
  /-- true = asserted. -/
  cs      : Bool
  clk     : Bool
  deriving DecidableEq, Repr

/-- `EECORE.S` (10_state.md R14, R15): the non-volatile array, EEREF's serial state, and the numbered serial state of
another core. The part of the core that is not configured stays as `init` left it. -/
structure EeCore where
  nv     : List Byte
  ref    : EeRef
  serial : Nat
  deriving DecidableEq, Repr

/-- The number a list of bits spells, most significant bit first. -/
def bitsToNat (bits : List Bool) : Nat := bits.foldl (fun n b => 2 * n + b.toNat) 0

/-- 42_eeprom.md R93: word `a` is `nv[2a] ∥ nv[2a+1]`, high byte first. -/
def eerefWord (nv : List Byte) (a : Nat) : Word := nv.getD (2 * a) 0 ++ nv.getD (2 * a + 1) 0

/-- `word(a) <- v` (42_eeprom.md R93, R100). -/
def eerefSetWord (nv : List Byte) (a : Nat) (v : Word) : List Byte :=
  (nv.set (2 * a) (v.extractLsb' 8 8)).set (2 * a + 1) (v.extractLsb' 0 8)

/-- EEREF's serial state after `init` (42_eeprom.md R95). -/
def eerefInit : EeRef :=
  { sr := [], sending := false, dout := 0, locked := true, di := false, cs := true, clk := false }

/-- The two opcode bits `sr[1..2]` (42_eeprom.md R100). -/
def eerefOpcode (sr : List Bool) : Bool × Bool := (sr.getD 1 false, sr.getD 2 false)

/-- The address `sr[3..8]` (42_eeprom.md R100). -/
def eerefAddress (sr : List Bool) : Nat := bitsToNat ((sr.drop 3).take 6)

/-- The data `sr[9..24]` (42_eeprom.md R100). -/
def eerefData (sr : List Bool) : Word := BitVec.ofNat 16 (bitsToNat ((sr.drop 9).take 16))

/-- `Match(s)`, after a bit has been appended (42_eeprom.md R100); the pair is the array and the serial state. -/
def eerefMatch (nv : List Byte) (r : EeRef) : List Byte × EeRef :=
  let a := eerefAddress r.sr
  if r.sr.length = 9 then
    match eerefOpcode r.sr with
    | (true, false) => (nv, { r with dout := (0 : BitVec 1) ++ eerefWord nv a, sending := true, sr := [] })
    | (true, true) => (if r.locked then nv else eerefSetWord nv a 0xFFFF, { r with sr := [] })
    | (false, false) =>
      match (r.sr.getD 3 false, r.sr.getD 4 false) with
      | (true, true) => (nv, { r with locked := false, sr := [] })
      | (false, false) => (nv, { r with locked := true, sr := [] })
      | (false, true) => (nv, { r with sr := [] })
      | (true, false) => (nv, { r with sr := [] })
    | (false, true) => (nv, r)
  else if r.sr.length = 25 ∧ eerefOpcode r.sr = (false, true) then
    (if r.locked then nv else eerefSetWord nv a (eerefData r.sr), { r with sr := [] })
  else (nv, r)

/-- `ClockEdge(s)` (42_eeprom.md R99). -/
def eerefClockEdge (nv : List Byte) (r : EeRef) : List Byte × EeRef :=
  if r.sending then (nv, { r with dout := (r.dout <<< 1) ||| 1 })
  else if r.sr = [] ∧ r.di = false then (nv, r)
  else eerefMatch nv { r with sr := r.sr ++ [r.di] }

/-- `EEREF.wrbit` (42_eeprom.md R96). -/
def eerefWrbit (r : EeRef) (b : Bool) : EeRef := { r with di := b }

/-- `EEREF.setcs` (42_eeprom.md R97): asserting resets the serial interface, on every call. -/
def eerefSetcs (r : EeRef) (a : Bool) : EeRef :=
  if a then { r with cs := a, sr := [], sending := false } else { r with cs := a }

/-- `EEREF.setclk` (42_eeprom.md R98): a rising edge while chip-select is not asserted clocks one bit. -/
def eerefSetclk (nv : List Byte) (r : EeRef) (old new : Bool) : List Byte × EeRef :=
  let r' := { r with clk := new }
  if old = false ∧ new = true ∧ r.cs = false then eerefClockEdge nv r' else (nv, r')

/-- `EEREF.rdbit` (42_eeprom.md R102). -/
def eerefRdbit (r : EeRef) : Bool := if r.sending then r.dout.getLsbD 16 else true

/-- `EECORE.init` (42_eeprom.md R89); `nv(init(b)) = b` holds by construction (R90 (e)). -/
def coreInit (k : CoreKind) (b : List Byte) : EeCore :=
  match k with
  | .eeref => { nv := b, ref := eerefInit, serial := 0 }
  | .other id => { nv := b, ref := eerefInit, serial := Config.otherInit id b }

/-- A setter call of a core other than EEREF: any new serial state and any new array of the same length
(42_eeprom.md R89, R90). -/
def otherCall (id : Nat) (call : CoreCall) (c : EeCore) : EeCore :=
  { c with
    nv := (List.range c.nv.length).map fun i => Config.otherByte id call c.nv c.serial i
    serial := Config.otherNext id call c.nv c.serial }

/-- `EECORE.wrbit` (42_eeprom.md R89). -/
def coreWrbit (k : CoreKind) (c : EeCore) (b : Bool) : EeCore :=
  match k with
  | .eeref => { c with ref := eerefWrbit c.ref b }
  | .other id => otherCall id (.wrbit b) c

/-- `EECORE.setcs` (42_eeprom.md R89). -/
def coreSetcs (k : CoreKind) (c : EeCore) (a : Bool) : EeCore :=
  match k with
  | .eeref => { c with ref := eerefSetcs c.ref a }
  | .other id => otherCall id (.setcs a) c

/-- `EECORE.setclk` (42_eeprom.md R89). -/
def coreSetclk (k : CoreKind) (c : EeCore) (old new : Bool) : EeCore :=
  match k with
  | .eeref =>
    let p := eerefSetclk c.nv c.ref old new
    { c with nv := p.1, ref := p.2 }
  | .other id => otherCall id (.setclk old new) c

/-- `EECORE.rdbit` (42_eeprom.md R88, R89). -/
def coreRdbit (k : CoreKind) (c : EeCore) : Bool :=
  match k with
  | .eeref => eerefRdbit c.ref
  | .other id => Config.otherOut id c.nv c.serial

end Sys2Proof.Machine
end

