-- ==== Sys2Proof/Machine/State.lean ====
section
/-! DEFINITION. Machine/State.lean: the state of the block (10_state.md R10 to R16, R20), what the environment presents
(30_encoding.md R50, R53; 10_state.md R19), what an operation puts out (00_scope.md R6), why the model stops, and the
machine right after reset (70_reset_and_hazards.md R190, R191). -/

namespace Sys2Proof.Machine

open Sys2Proof

/-- An emitted call (10_state.md R20). -/
inductive Call where
  | sndRegWrite (off : Addr) (byte : Byte)
  | sndDataWrite (off : Addr) (byte : Byte)
  | dirtyTile (layer : Nat) (tile : Nat)
  | paletteWrite (off : Addr) (value : Word)
  | nvSaveImage (bytes : List Byte)
  | diagNvramInit
  deriving DecidableEq, Repr

/-- What the environment presents beside one operation: the values it would give at that operation's samples
(10_state.md R19) and the image that may travel with EV.NVLOAD (46_nvram_host.md R160). -/
structure Env where
  in0       : Word
  in1       : Word
  /-- `snd_status(off)` at the offset of the operation that samples it. -/
  sndStatus : Byte
  image     : List Byte
  deriving DecidableEq, Repr

/-- The form in which an operation is presented: the X-format pair of the block's interface (30_encoding.md R50), or an
already decoded transaction (R51), which the operation map is defined on (log 3). -/
inductive Form where
  | x (a w : Word32)
  | t (d : Txn)
  deriving DecidableEq, Repr

/-- One presented operation. -/
structure Presented where
  form : Form
  env  : Env
  deriving DecidableEq, Repr

/-- What the renderer receives of one unit at EV.RENDER: every byte of it (46_nvram_host.md R165; 45_storage_and_sound.md
R141: the size is the length). -/
structure UnitView where
  id    : UnitId
  bytes : List Byte
  deriving DecidableEq, Repr

/-- The state. The fields down to `mem` are the block's (10_state.md R10); `irqLine` is its output level (R12);
`cfg` is constant; the rest are the model's own: the counters of the free values, the outputs, and what the environment
has presented. -/
structure State where
  /-- The configuration; no operation changes it (10_state.md R18; 44_dispatcher.md R128). -/
  cfg            : Config
  vblankPending  : Bool
  soundPending   : Bool
  unknownPending : Bool
  /-- The combined interrupt line, as UpdateIrq last drove it (10_state.md R12; 41_irq_cause.md R78). -/
  irqLine        : Bool
  eeDi           : Bool
  /-- true = chip-select asserted (10_state.md R13). -/
  eeCs           : Bool
  eeClk          : Bool
  eeCore         : EeCore
  /-- The bytes of the writable units written since the last reset (10_state.md R16). -/
  mem            : Memory
  /-- Model's own: how many resets there have been; it selects the draws of 70_reset_and_hazards.md R190. -/
  epoch          : Nat
  /-- Model's own: how many draws unmapped reads have taken (44_dispatcher.md R123). -/
  draws          : Nat
  /-- The output trace (10_state.md R20). -/
  trace          : List Call
  /-- Model's own: the value the last operation returned, if it was a read (20_memory.md R31). -/
  rdata          : Option Word
  /-- Model's own: the snapshot the last operation handed the renderer, if it was EV.RENDER (46_nvram_host.md R165). -/
  view           : Option (List UnitView)
  /-- Model's own: the operations the environment has presented and the block has not taken yet, first one first. -/
  pending        : List Presented
  /-- Model's own: the environment's values at the samples of the operation being taken (10_state.md R19). -/
  env            : Env
  deriving DecidableEq, Repr

/-- Faults: none. "The set of exception causes is empty" (60_exceptions.md R170; 00_scope.md R5: no fault arm). Safe. -/
inductive Fault where
  deriving DecidableEq, Repr

/-- Refusals. Each is a configuration or a transaction that the interface cannot carry (00_scope.md R5). -/
inductive Refusal where
  /-- Raised by `exec` for an instruction that has no meaning yet (none is left). Safe. -/
  | notModelled (mnemonic : String)
  /-- Raised by `step` when the configuration fails a check of 44_dispatcher.md R122: "a model refuses any other
  configuration before the first operation". Safe. -/
  | illFormedConfig
  /-- Raised by `step` for kind 0b11 and for event codes 7 to 15 (30_encoding.md R61 (g)). Safe. -/
  | undecodable (e : DecodeError)
  /-- Raised by `step` for an X-format pair whose zero bits are not zero (30_encoding.md R50). Safe. -/
  | malformedTransaction
  /-- Raised by `step` for a bus transaction at an odd address or offset (20_memory.md R34). Safe. -/
  | oddAddress
  /-- Raised by EV.NVLOAD for an image whose length is not `NV_BYTES` (46_nvram_host.md R160). Safe. -/
  | imageLength
  /-- Raised by a storage operation whose word is not inside a unit of `UNITS(v)`, which no transaction of a well-formed
  configuration reaches (45_storage_and_sound.md R155). Safe. -/
  | outsideUnit
  deriving DecidableEq, Repr

/-- What an operation of this model answers. -/
abbrev Result := Host.Outcome State Fault Refusal

/-- Nothing presented: all samples zero, no image. -/
def Env.quiet : Env := { in0 := 0, in1 := 0, sndStatus := 0, image := [] }

/-- `NV_BYTES` draws: the array before the first EV.NVLOAD (70_reset_and_hazards.md R190 corner case (a), R191). -/
def drawnNv (n : Nat) : List Byte := (List.range n).map Config.drawNv

/-- The machine right after its first EV.RESET in a given configuration (70_reset_and_hazards.md R190, R191): no flag
pending, line low, the pin latches at (0, 1, 0), the core initialised around an array of draws, every storage byte a
draw, the trace empty, nothing presented. -/
def State.resetIn (c : Config) : State where
  cfg := c
  vblankPending := false
  soundPending := false
  unknownPending := false
  irqLine := false
  eeDi := false
  eeCs := true
  eeClk := false
  eeCore := coreInit c.eecore (drawnNv c.nvBytes)
  mem := []
  epoch := 0
  draws := 0
  trace := []
  rdata := none
  view := none
  pending := []
  env := Env.quiet

/-- The machine right after reset. The spec leaves the configuration open; the model's one reset state has the spec's
example configuration `EXMAP_A` (DESIGN CHOICE, log 4). -/
def State.reset : State := State.resetIn exmapA

/-- `vblankPending <- b`. -/
def State.setVblank (s : State) (b : Bool) : State := { s with vblankPending := b }

/-- `soundPending <- b`. -/
def State.setSound (s : State) (b : Bool) : State := { s with soundPending := b }

/-- `unknownPending <- b`. -/
def State.setUnknown (s : State) (b : Bool) : State := { s with unknownPending := b }

/-- Drive the interrupt line. -/
def State.setLine (s : State) (b : Bool) : State := { s with irqLine := b }

/-- `ee_di <- b`. -/
def State.setEeDi (s : State) (b : Bool) : State := { s with eeDi := b }

/-- `ee_cs <- b`. -/
def State.setEeCs (s : State) (b : Bool) : State := { s with eeCs := b }

/-- `ee_clk <- b`. -/
def State.setEeClk (s : State) (b : Bool) : State := { s with eeClk := b }

/-- `ee_core <- c`. -/
def State.setEeCore (s : State) (c : EeCore) : State := { s with eeCore := c }

/-- Replace the written storage bytes. -/
def State.setMem (s : State) (m : Memory) : State := { s with mem := m }

/-- Start the draws of the next reset. -/
def State.nextEpoch (s : State) : State := { s with epoch := s.epoch + 1 }

/-- Take the next draw of an unmapped read. -/
def State.nextDraw (s : State) : State := { s with draws := s.draws + 1 }

/-- `emit C(args)` (10_state.md R20). -/
def State.emit (s : State) (c : Call) : State := { s with trace := s.trace ++ [c] }

/-- `return v` (20_memory.md R31). -/
def State.answer (s : State) (v : Word) : State := { s with rdata := some v }

/-- Hand the renderer a snapshot (46_nvram_host.md R165). -/
def State.display (s : State) (v : List UnitView) : State := { s with view := some v }

/-- Take a presented operation from the queue: its samples become the environment's, and the outputs of the operation
before it end. -/
def State.take (s : State) (p : Presented) (rest : List Presented) : State :=
  { s with pending := rest, env := p.env, rdata := none, view := none }

end Sys2Proof.Machine
end

