-- ==== Sys2Proof/Machine/Flags.lean ====
section
/-! DEFINITION. Machine/Flags.lean: the three pending flags, the combined line and the two cause values
(10_state.md R11, R12, R23, R24; 30_encoding.md R57; 41_irq_cause.md R78). -/

namespace Sys2Proof.Machine

open Sys2Proof

/-- What the combined line should be: the OR of the three flags (10_state.md R12). -/
def combined (s : State) : Bool := s.vblankPending || s.soundPending || s.unknownPending

/-- `UpdateIrq()` (41_irq_cause.md R78). -/
def updateIrq (s : State) : State := s.setLine (combined s)

/-- Clear one bit of a cause value if a flag is pending (41_irq_cause.md R73: the fields are active low). -/
def clearIf (pending : Bool) (mask v : Word) : Word := if pending then v &&& mask else v

/-- The standard cause value (30_encoding.md R57; 41_irq_cause.md R73). -/
def causeStd (s : State) : Word := clearIf s.unknownPending 0xFFFD (clearIf s.vblankPending 0xFFFE 0x0003)

/-- The alternate cause value (30_encoding.md R57; 41_irq_cause.md R76). -/
def causeAlt (s : State) : Word := clearIf s.vblankPending 0xFFFE 0x0007

/-- The line as the CPU receives it, `cpuSetInterruptLine(lineId, asserted)` (60_exceptions.md R174). -/
def cpuLine (s : State) : Nat × Bool := (s.cfg.irqLineId, s.irqLine)

end Sys2Proof.Machine
end

