-- ==== Sys2Proof/Machine/Operands.lean ====
section
/-! DEFINITION. Machine/Operands.lean: the fields of a write word, the offsets and the values an operation computes from
its operands and samples (20_memory.md R32, R36; 30_encoding.md R55, R56, R58, R59; 45_storage_and_sound.md R143, R145). -/

namespace Sys2Proof.Machine

open Sys2Proof

/-- `W[15:0]`: the data (20_memory.md R32). -/
def wData (w : Word32) : Word := w.extractLsb' 0 16

/-- `W[31:16]`: the lane qualifier (20_memory.md R32). -/
def wLane (w : Word32) : Word := w.extractLsb' 16 16

/-- `W[31:24]`: the qualifier of data bits 15:8 (20_memory.md R32). -/
def wLaneHi (w : Word32) : Byte := w.extractLsb' 24 8

/-- `W[23:16]`: the qualifier of data bits 7:0 (20_memory.md R32). -/
def wLaneLo (w : Word32) : Byte := w.extractLsb' 16 8

/-- `W[7:0]`: the byte a sound port hands over (30_encoding.md R59). -/
def wLowByte (w : Word32) : Byte := w.extractLsb' 0 8

/-- One byte of the merge of 20_memory.md R36: the bits of `keep` that are 1 keep the old bit. A byte that is written whole
is given without looking at the old one, so that a byte store over an unwritten byte evaluates. -/
def muxByte (keep old new : Byte) : Byte := if keep = 0 then new else (old &&& keep) ||| (new &&& ~~~keep)

/-- `Mux16(old, W)` (20_memory.md R36), byte by byte. -/
def mux16 (old : Word) (w : Word32) : Word :=
  muxByte (wLaneHi w) (old.extractLsb' 8 8) (w.extractLsb' 8 8) ++ muxByte (wLaneLo w) (old.extractLsb' 0 8) (wLowByte w)

/-- Does an EEPROM control write take effect: `W[31:24] = 0` in the standard layout, `W[23:16] = 0` in Guwange's
(30_encoding.md R55, R56). -/
def eeEffective (l : Layout) (w : Word32) : Bool :=
  match l with
  | .std => wLaneHi w == 0
  | .guw => wLaneLo w == 0

/-- `EE_DI`: `W[11]` or `W[7]` (30_encoding.md R55, R56). -/
def eeDiBit (l : Layout) (w : Word32) : Bool :=
  match l with
  | .std => w.getLsbD 11
  | .guw => w.getLsbD 7

/-- Chip-select asserted: the inverse of `EE_CS_N`, which is `W[9]` or `W[5]` (30_encoding.md R55, R56). -/
def eeCsBit (l : Layout) (w : Word32) : Bool :=
  match l with
  | .std => !w.getLsbD 9
  | .guw => !w.getLsbD 5

/-- `EE_CLK`: `W[10]` or `W[6]` (30_encoding.md R55, R56). -/
def eeClkBit (l : Layout) (w : Word32) : Bool :=
  match l with
  | .std => w.getLsbD 10
  | .guw => w.getLsbD 6

/-- `IN1E`: input port 1 with the EEPROM's output bit ORed in at `EE_DO_BIT` (30_encoding.md R58). -/
def in1E (l : Layout) (in1 : Word) (eeDo : Bool) : Word := in1 ||| ((BitVec.ofBool eeDo).setWidth 16 <<< eeDoBitOf l)

/-- `offset AND VRAM8_MASK` (45_storage_and_sound.md R144, R145). -/
def mirrored (c : Config) (off : Addr) : Addr := off &&& c.vram8Mask

/-- `TileIndex(layer, offset)`: by default `offset div TILE_BYTES` (00_scope.md R7; 45_storage_and_sound.md R143). -/
def tileIndex (c : Config) (layer : Nat) (off : Addr) : Nat :=
  match c.tileRule with
  | .divTileBytes => off.toNat / c.tileBytes
  | .other id => Config.otherTileIndex id layer off.toNat

/-- The unit ids a storage operation names by its operand (45_storage_and_sound.md: `u`, `vram(layer)`, `lctrl(layer)`). -/
def romUnit (u : Nat) : UnitId := ⟨.rom, u⟩

/-- A RAM unit. -/
def ramUnit (u : Nat) : UnitId := ⟨.ram, u⟩

/-- A sprite RAM unit. -/
def spriteUnit (u : Nat) : UnitId := ⟨.spriteram, u⟩

/-- `vram(layer)`. -/
def vramUnit (layer : Nat) : UnitId := ⟨.vram, layer⟩

/-- A palette unit. -/
def paletteUnit (u : Nat) : UnitId := ⟨.palette, u⟩

/-- A video register unit. -/
def videoUnit (u : Nat) : UnitId := ⟨.videoregs, u⟩

/-- `lctrl(layer)`. -/
def lctrlUnit (layer : Nat) : UnitId := ⟨.layerctrl, layer⟩

end Sys2Proof.Machine
end

