-- ==== Sys2Proof/Machine/Ops.lean ====
section
/-! DEFINITION. Machine/Ops.lean: the operations the meanings share: storage reads and writes (45_storage_and_sound.md
R155), ROM reads (R135), the draw of an unmapped read (44_dispatcher.md R123), the three EEPROM signals (42_eeprom.md R87),
the renderer's snapshot (46_nvram_host.md R165) and the reset (70_reset_and_hazards.md R190). The block takes no exception
and returns from none (60_exceptions.md R170, R180, R181), so no operation of that kind stands here. -/

namespace Sys2Proof.Machine

open Sys2Proof

/-- `unit[u][off]` of a writable unit: the byte written since the last reset, else the draw taken at that reset
(10_state.md R16). -/
def readByte (s : State) (u : UnitId) (off : Nat) : Byte :=
  match memFind s.mem (byteAddr u off) with
  | some b => b
  | none => Config.drawByte s.epoch (byteAddr u off)

/-- `ROM(u)[off]` (10_state.md R17). -/
def romByte (c : Config) (u : UnitId) (off : Nat) : Byte :=
  match memFind c.rom (byteAddr u off) with
  | some b => b
  | none => 0

/-- The word at `off` lies inside unit `u` (45_storage_and_sound.md R155: `off + 1 < size(u)`). -/
def inUnit (c : Config) (u : UnitId) (off : Addr) : Bool :=
  match unitSize c.units u with
  | none => false
  | some n => Nat.blt (off.toNat + 1) n

/-- `U16(u, off)`, big-endian (20_memory.md R33). -/
def storedWord (s : State) (u : UnitId) (off : Addr) : Word := readByte s u off.toNat ++ readByte s u (off.toNat + 1)

/-- `ROM(u)[off] ∥ ROM(u)[off+1]` (45_storage_and_sound.md R135). -/
def romWord (c : Config) (u : UnitId) (off : Addr) : Word := romByte c u off.toNat ++ romByte c u (off.toNat + 1)

/-- `unit[u][off] <- b`. -/
def writeByte (s : State) (u : UnitId) (off : Nat) (b : Byte) : State := s.setMem (memStore s.mem (byteAddr u off) b)

/-- The word `StoreWrite(u, off, W)` puts into storage and returns: the merge (45_storage_and_sound.md R155). -/
def mergedWord (s : State) (u : UnitId) (off : Addr) (w : Word32) : Word := mux16 (storedWord s u off) w

/-- `U16(u, off) <- v` (20_memory.md R33). -/
def writeWord (s : State) (u : UnitId) (off : Addr) (v : Word) : State :=
  writeByte (writeByte s u off.toNat (v.extractLsb' 8 8)) u (off.toNat + 1) (v.extractLsb' 0 8)

/-- `StoreWrite(u, off, W)` (45_storage_and_sound.md R155). -/
def storeWrite (s : State) (u : UnitId) (off : Addr) (w : Word32) : State := writeWord s u off (mergedWord s u off w)

/-- Run a storage operation on a word inside its unit; refuse a word outside it, which a well-formed configuration rules
out (45_storage_and_sound.md R155; 44_dispatcher.md R122 WF2, WF6). -/
def onUnit (c : Config) (u : UnitId) (off : Addr) (t : State) : Result :=
  if inUnit c u off then .next t else .refused .outsideUnit

/-- `return StoreRead(u, off)` (45_storage_and_sound.md R155). -/
def readUnit (s : State) (u : UnitId) (off : Addr) : Result := onUnit s.cfg u off (s.answer (storedWord s u off))

/-- `StoreWrite(u, off, W)` and nothing else (45_storage_and_sound.md R138, R140, R149, R151). -/
def writeUnit (s : State) (u : UnitId) (off : Addr) (w : Word32) : Result := onUnit s.cfg u off (storeWrite s u off w)

/-- A VRAM write: the store, then one dirty-tile notice (45_storage_and_sound.md R143, R145). -/
def writeTile (s : State) (layer : Nat) (off : Addr) (w : Word32) : Result :=
  onUnit s.cfg (vramUnit layer) off
    ((storeWrite s (vramUnit layer) off w).emit (.dirtyTile layer (tileIndex s.cfg layer off)))

/-- `return draw16()` (44_dispatcher.md R123): a fresh free value at each such read. -/
def readDraw (s : State) : State := (s.answer (Config.drawWord s.draws)).nextDraw

/-- `ee_di <- di; ee_core <- EECORE.wrbit(ee_core, di)` (42_eeprom.md R87). -/
def eeWriteBit (s : State) (di : Bool) : State := (s.setEeDi di).setEeCore (coreWrbit s.cfg.eecore s.eeCore di)

/-- `ee_cs <- cs; ee_core <- EECORE.setcs(ee_core, cs)` (42_eeprom.md R87). -/
def eeSetChipSelect (s : State) (cs : Bool) : State := (s.setEeCs cs).setEeCore (coreSetcs s.cfg.eecore s.eeCore cs)

/-- `old <- ee_clk; ee_clk <- clk; ee_core <- EECORE.setclk(ee_core, old, clk)` (42_eeprom.md R87). -/
def eeSetClock (s : State) (clk : Bool) : State :=
  (s.setEeClk clk).setEeCore (coreSetclk s.cfg.eecore s.eeCore s.eeClk clk)

/-- `EeDrive(di, cs, clk)`: data-in, then chip-select, then clock (42_eeprom.md R87). -/
def eeDrive (s : State) (di cs clk : Bool) : State := eeSetClock (eeSetChipSelect (eeWriteBit s di) cs) clk

/-- An EEPROM control write (42_eeprom.md R85, R86): nothing at all unless its byte lane is written. -/
def eeControl (s : State) (l : Layout) (w : Word32) : State :=
  if eeEffective l w then eeDrive s (eeDiBit l w) (eeCsBit l w) (eeClkBit l w) else s

/-- `ee_do` (42_eeprom.md R88). -/
def eeDo (s : State) : Bool := coreRdbit s.cfg.eecore s.eeCore

/-- `ee_di <- 0; ee_cs <- 1; ee_clk <- 0; ee_core <- EECORE.init(b)` (46_nvram_host.md R160; 70_reset_and_hazards.md R190). -/
def eeRestart (s : State) (b : List Byte) : State :=
  (((s.setEeDi false).setEeCs true).setEeClk false).setEeCore (coreInit s.cfg.eecore b)

/-- The units the renderer sees (46_nvram_host.md R165). -/
def rendered : UnitKind → Bool
  | .rom => false
  | .ram => false
  | .spriteram => true
  | .vram => true
  | .palette => true
  | .videoregs => true
  | .layerctrl => true

/-- One unit whole, as the renderer receives it (46_nvram_host.md R165; 45_storage_and_sound.md R141). -/
def unitView (s : State) (d : UnitDecl) : UnitView := { id := d.id, bytes := (List.range d.size).map (readByte s d.id) }

/-- The renderer's snapshot (46_nvram_host.md R165). -/
def snapshot (s : State) : List UnitView := (s.cfg.units.filter fun d => rendered d.id.kind).map (unitView s)

/-- `EV.RESET` (70_reset_and_hazards.md R190): flags and line down, latches and core restarted around the array that is
kept, every storage byte a fresh draw, the trace unchanged. -/
def resetBlock (s : State) : State :=
  (eeRestart (updateIrq (((s.setVblank false).setSound false).setUnknown false)) s.eeCore.nv |>.setMem []).nextEpoch

end Sys2Proof.Machine
end

