-- ==== Sys2Proof/Machine/Cause.lean ====
section
/-! DEFINITION. Machine/Cause.lean: the interrupt-cause latch: the three events and the cause-register reads
(41_irq_cause.md R70 to R79). In every read the value is formed from the flags as they are before anything is cleared. -/

namespace Sys2Proof.Machine

open Sys2Proof

/-- `EV.VBLANK` (41_irq_cause.md R70). -/
def execEvVblank (s : State) : Result := .next (updateIrq (s.setVblank true))

/-- `EV.SNDIRQ(active)` (41_irq_cause.md R71). -/
def execEvSndirq (active : Bool) (s : State) : Result := .next (updateIrq (s.setSound active))

/-- `EV.UNKNOWN` (41_irq_cause.md R72): tied off in the ALT variant. -/
def execEvUnknown (s : State) : Result :=
  .next (updateIrq (if protoOf s.cfg.variant = .std then s.setUnknown true else s))

/-- `RD.CAUSE.STD.PEEK` (41_irq_cause.md R73). -/
def execRdCauseStdPeek (_off : Addr) (s : State) : Result := .next ((updateIrq s).answer (causeStd s))

/-- `RD.CAUSE.STD.ACKV` (41_irq_cause.md R74). -/
def execRdCauseStdAckv (s : State) : Result := .next ((updateIrq (s.setVblank false)).answer (causeStd s))

/-- `RD.CAUSE.STD.ACKU` (41_irq_cause.md R75). -/
def execRdCauseStdAcku (s : State) : Result := .next ((updateIrq (s.setUnknown false)).answer (causeStd s))

/-- `RD.CAUSE.ALT.ACKV` (41_irq_cause.md R76). -/
def execRdCauseAltAckv (s : State) : Result := .next ((updateIrq (s.setVblank false)).answer (causeAlt s))

/-- `RD.CAUSE.ALT.PEEK` (41_irq_cause.md R77). -/
def execRdCauseAltPeek (_off : Addr) (s : State) : Result := .next ((updateIrq s).answer (causeAlt s))

/-- `RD.CAUSE.STD.OOR` (41_irq_cause.md R79). -/
def execRdCauseStdOor (_off : Addr) (s : State) : Result := .next ((updateIrq s).answer 0x0000)

/-- `RD.CAUSE.ALT.OOR` (41_irq_cause.md R79). -/
def execRdCauseAltOor (_off : Addr) (s : State) : Result := .next ((updateIrq s).answer 0x0000)

end Sys2Proof.Machine
end

