-- ==== Sys2Proof/Machine/Eeprom.lean ====
section
/-! DEFINITION. Machine/Eeprom.lean: the two EEPROM control writes (42_eeprom.md R85, R86). -/

namespace Sys2Proof.Machine

open Sys2Proof

/-- `WR.EE.STD` (42_eeprom.md R85). -/
def execWrEeStd (_off : Addr) (w : Word32) (s : State) : Result := .next (eeControl s .std w)

/-- `WR.EE.GUW` (42_eeprom.md R86). -/
def execWrEeGuw (_off : Addr) (w : Word32) (s : State) : Result := .next (eeControl s .guw w)

end Sys2Proof.Machine
end

