-- ==== Sys2Proof/Machine/Events.lean ====
section
/-! DEFINITION. Machine/Events.lean: the host's events (46_nvram_host.md R160, R161, R165; 70_reset_and_hazards.md R190). -/

namespace Sys2Proof.Machine

open Sys2Proof

/-- `EV.RESET` (70_reset_and_hazards.md R190). -/
def execEvReset (s : State) : Result := .next (resetBlock s)

/-- `EV.RENDER` (46_nvram_host.md R165): observation only. -/
def execEvRender (s : State) : Result := .next (s.display (snapshot s))

/-- `EV.NVLOAD(image)` (46_nvram_host.md R160). Without an image: the diagnostic, and `NV_BYTES` bytes of 0x00. An image of
the wrong length "is not an `image`": refused. -/
def execEvNvload (hasImage : Bool) (s : State) : Result :=
  if hasImage then
    if s.env.image.length = s.cfg.nvBytes then .next (eeRestart s s.env.image) else .refused .imageLength
  else .next (eeRestart (s.emit .diagNvramInit) (List.replicate s.cfg.nvBytes 0x00))

/-- `EV.NVSAVE` (46_nvram_host.md R161). -/
def execEvNvsave (s : State) : Result := .next (s.emit (.nvSaveImage s.eeCore.nv))

end Sys2Proof.Machine
end

