-- ==== Sys2Proof/Machine/Inputs.lean ====
section
/-! DEFINITION. Machine/Inputs.lean: the input-port and EEPROM bit compositor (43_input_compositor.md R110 to R116). -/

namespace Sys2Proof.Machine

open Sys2Proof

/-- `RD.IN.STD.P0` (43_input_compositor.md R111). -/
def execRdInStdP0 (s : State) : Result := .next (s.answer s.env.in0)

/-- `RD.IN.STD.P1E` (43_input_compositor.md R112). -/
def execRdInStdP1e (s : State) : Result := .next (s.answer (in1E .std s.env.in1 (eeDo s)))

/-- `RD.IN.STD.ZERO` (43_input_compositor.md R113). -/
def execRdInStdZero (_off : Addr) (s : State) : Result := .next (s.answer 0x0000)

/-- `RD.IN.GUW.P0` (43_input_compositor.md R114). -/
def execRdInGuwP0 (s : State) : Result := .next (s.answer s.env.in0)

/-- `RD.IN.GUW.P1E` (43_input_compositor.md R115). -/
def execRdInGuwP1e (s : State) : Result := .next (s.answer (in1E .guw s.env.in1 (eeDo s)))

/-- `RD.IN.GUW.ZERO` (43_input_compositor.md R116). -/
def execRdInGuwZero (_off : Addr) (s : State) : Result := .next (s.answer 0x0000)

end Sys2Proof.Machine
end

