-- ==== Sys2Proof/Machine/Sound.lean ====
section
/-! DEFINITION. Machine/Sound.lean: the sound-chip ports (45_storage_and_sound.md R152 to R154; 30_encoding.md R59). -/

namespace Sys2Proof.Machine

open Sys2Proof

/-- A sound write: the call, if `W[31:16] = 0`; else nothing (45_storage_and_sound.md R152, R153). -/
def soundWrite (s : State) (w : Word32) (c : Call) : State := if wLane w = 0 then s.emit c else s

/-- `WR.SND.REG` (45_storage_and_sound.md R152). -/
def execWrSndReg (off : Addr) (w : Word32) (s : State) : Result :=
  .next (soundWrite s w (.sndRegWrite off (wLowByte w)))

/-- `WR.SND.DATA` (45_storage_and_sound.md R153). -/
def execWrSndData (off : Addr) (w : Word32) (s : State) : Result :=
  .next (soundWrite s w (.sndDataWrite off (wLowByte w)))

/-- `RD.SND.STATUS` (45_storage_and_sound.md R154). -/
def execRdSndStatus (_off : Addr) (s : State) : Result := .next (s.answer (s.env.sndStatus.setWidth 16))

end Sys2Proof.Machine
end

