-- ==== Sys2Proof/Machine/Storage.lean ====
section
/-! DEFINITION. Machine/Storage.lean: the storage regions (45_storage_and_sound.md R135 to R151). -/

namespace Sys2Proof.Machine

open Sys2Proof

/-- `RD.ROM` (45_storage_and_sound.md R135). -/
def execRdRom (u : Nat) (off : Addr) (s : State) : Result :=
  onUnit s.cfg (romUnit u) off (s.answer (romWord s.cfg (romUnit u) off))

/-- `WR.ROM` (45_storage_and_sound.md R136): nothing. -/
def execWrRom (_u : Nat) (_off : Addr) (_w : Word32) (s : State) : Result := .next s

/-- `RD.RAM` (45_storage_and_sound.md R137). -/
def execRdRam (u : Nat) (off : Addr) (s : State) : Result := readUnit s (ramUnit u) off

/-- `WR.RAM` (45_storage_and_sound.md R138). -/
def execWrRam (u : Nat) (off : Addr) (w : Word32) (s : State) : Result := writeUnit s (ramUnit u) off w

/-- `RD.SPRITERAM` (45_storage_and_sound.md R139). -/
def execRdSpriteram (u : Nat) (off : Addr) (s : State) : Result := readUnit s (spriteUnit u) off

/-- `WR.SPRITERAM` (45_storage_and_sound.md R140). -/
def execWrSpriteram (u : Nat) (off : Addr) (w : Word32) (s : State) : Result := writeUnit s (spriteUnit u) off w

/-- `RD.VRAM16` (45_storage_and_sound.md R142). -/
def execRdVram16 (layer : Nat) (off : Addr) (s : State) : Result := readUnit s (vramUnit layer) off

/-- `WR.VRAM16` (45_storage_and_sound.md R143). -/
def execWrVram16 (layer : Nat) (off : Addr) (w : Word32) (s : State) : Result := writeTile s layer off w

/-- `RD.VRAM8` (45_storage_and_sound.md R144): the read is masked like the write. -/
def execRdVram8 (layer : Nat) (off : Addr) (s : State) : Result :=
  readUnit s (vramUnit layer) (mirrored s.cfg off)

/-- `WR.VRAM8` (45_storage_and_sound.md R145): the store and the notice both use the masked offset. -/
def execWrVram8 (layer : Nat) (off : Addr) (w : Word32) (s : State) : Result :=
  writeTile s layer (mirrored s.cfg off) w

/-- `RD.PALETTE` (45_storage_and_sound.md R146). -/
def execRdPalette (u : Nat) (off : Addr) (s : State) : Result := readUnit s (paletteUnit u) off

/-- `WR.PALETTE` (45_storage_and_sound.md R147): stores, then forwards the merged word. -/
def execWrPalette (u : Nat) (off : Addr) (w : Word32) (s : State) : Result :=
  onUnit s.cfg (paletteUnit u) off
    ((storeWrite s (paletteUnit u) off w).emit (.paletteWrite off (mergedWord s (paletteUnit u) off w)))

/-- `RD.VIDEOREGS` (45_storage_and_sound.md R148). -/
def execRdVideoregs (u : Nat) (off : Addr) (s : State) : Result := readUnit s (videoUnit u) off

/-- `WR.VIDEOREGS` (45_storage_and_sound.md R149). -/
def execWrVideoregs (u : Nat) (off : Addr) (w : Word32) (s : State) : Result := writeUnit s (videoUnit u) off w

/-- `RD.LAYERCTRL` (45_storage_and_sound.md R150). -/
def execRdLayerctrl (layer : Nat) (off : Addr) (s : State) : Result := readUnit s (lctrlUnit layer) off

/-- `WR.LAYERCTRL` (45_storage_and_sound.md R151). -/
def execWrLayerctrl (layer : Nat) (off : Addr) (w : Word32) (s : State) : Result :=
  writeUnit s (lctrlUnit layer) off w

end Sys2Proof.Machine
end

