-- ==== Sys2Proof/Machine/Unmapped.lean ====
section
/-! DEFINITION. Machine/Unmapped.lean: the two no-match operations and the two reserved catch-alls, which are treated as
no match (44_dispatcher.md R123, R124; 30_encoding.md R61 (a), (b)). -/

namespace Sys2Proof.Machine

open Sys2Proof

/-- `RD.UNMAPPED` (44_dispatcher.md R123). -/
def execRdUnmapped (_addr : Addr) (s : State) : Result := .next (readDraw s)

/-- `WR.UNMAPPED` (44_dispatcher.md R124): nothing. -/
def execWrUnmapped (_addr : Addr) (_w : Word32) (s : State) : Result := .next s

/-- `RD.RSVD` (30_encoding.md R61 (b)): "treats a read as `RD.UNMAPPED`". -/
def execRdRsvd (_bits : BitVec 30) (s : State) : Result := .next (readDraw s)

/-- `WR.RSVD` (30_encoding.md R61 (b)): "and a write as `WR.UNMAPPED`". -/
def execWrRsvd (_bits : BitVec 30) (_w : Word32) (s : State) : Result := .next s

end Sys2Proof.Machine
end

