-- ==== Sys2Proof/Machine/Dispatch.lean ====
section
/-! DEFINITION. Machine/Dispatch.lean: one arm per operation of the operation map (30_encoding.md R60). -/

namespace Sys2Proof.Machine

open Sys2Proof

def exec (i : Instr) (s : State) : Host.Outcome State Fault Refusal :=
  match i with
  | .rdCauseStdAckv => Sys2Proof.Machine.execRdCauseStdAckv s
  | .rdCauseStdAcku => Sys2Proof.Machine.execRdCauseStdAcku s
  | .rdCauseStdPeek off => Sys2Proof.Machine.execRdCauseStdPeek off s
  | .rdCauseStdOor off => Sys2Proof.Machine.execRdCauseStdOor off s
  | .rdCauseAltAckv => Sys2Proof.Machine.execRdCauseAltAckv s
  | .rdCauseAltPeek off => Sys2Proof.Machine.execRdCauseAltPeek off s
  | .rdCauseAltOor off => Sys2Proof.Machine.execRdCauseAltOor off s
  | .rdInStdP0 => Sys2Proof.Machine.execRdInStdP0 s
  | .rdInStdP1e => Sys2Proof.Machine.execRdInStdP1e s
  | .rdInStdZero off => Sys2Proof.Machine.execRdInStdZero off s
  | .rdInGuwP0 => Sys2Proof.Machine.execRdInGuwP0 s
  | .rdInGuwP1e => Sys2Proof.Machine.execRdInGuwP1e s
  | .rdInGuwZero off => Sys2Proof.Machine.execRdInGuwZero off s
  | .rdRom u off => Sys2Proof.Machine.execRdRom u off s
  | .rdRam u off => Sys2Proof.Machine.execRdRam u off s
  | .rdSpriteram u off => Sys2Proof.Machine.execRdSpriteram u off s
  | .rdVram16 layer off => Sys2Proof.Machine.execRdVram16 layer off s
  | .rdVram8 layer off => Sys2Proof.Machine.execRdVram8 layer off s
  | .rdPalette u off => Sys2Proof.Machine.execRdPalette u off s
  | .rdVideoregs u off => Sys2Proof.Machine.execRdVideoregs u off s
  | .rdLayerctrl layer off => Sys2Proof.Machine.execRdLayerctrl layer off s
  | .rdSndStatus off => Sys2Proof.Machine.execRdSndStatus off s
  | .rdUnmapped addr => Sys2Proof.Machine.execRdUnmapped addr s
  | .rdRsvd bits => Sys2Proof.Machine.execRdRsvd bits s
  | .wrRom u off w => Sys2Proof.Machine.execWrRom u off w s
  | .wrRam u off w => Sys2Proof.Machine.execWrRam u off w s
  | .wrSpriteram u off w => Sys2Proof.Machine.execWrSpriteram u off w s
  | .wrVram16 layer off w => Sys2Proof.Machine.execWrVram16 layer off w s
  | .wrVram8 layer off w => Sys2Proof.Machine.execWrVram8 layer off w s
  | .wrPalette u off w => Sys2Proof.Machine.execWrPalette u off w s
  | .wrVideoregs u off w => Sys2Proof.Machine.execWrVideoregs u off w s
  | .wrLayerctrl layer off w => Sys2Proof.Machine.execWrLayerctrl layer off w s
  | .wrSndReg off w => Sys2Proof.Machine.execWrSndReg off w s
  | .wrSndData off w => Sys2Proof.Machine.execWrSndData off w s
  | .wrEeStd off w => Sys2Proof.Machine.execWrEeStd off w s
  | .wrEeGuw off w => Sys2Proof.Machine.execWrEeGuw off w s
  | .wrUnmapped addr w => Sys2Proof.Machine.execWrUnmapped addr w s
  | .wrRsvd bits w => Sys2Proof.Machine.execWrRsvd bits w s
  | .evReset => Sys2Proof.Machine.execEvReset s
  | .evVblank => Sys2Proof.Machine.execEvVblank s
  | .evSndirq active => Sys2Proof.Machine.execEvSndirq active s
  | .evUnknown => Sys2Proof.Machine.execEvUnknown s
  | .evRender => Sys2Proof.Machine.execEvRender s
  | .evNvload hasImage => Sys2Proof.Machine.execEvNvload hasImage s
  | .evNvsave => Sys2Proof.Machine.execEvNvsave s

end Sys2Proof.Machine
end

