-- ==== Sys2Proof/Machine/Mux.lean ====
section
/-! DEFINITION. Machine/Mux.lean: the address-range multiplexer (44_dispatcher.md R121, R126): from a bus transaction to a
decoded transaction. It reads no state beyond the configuration. -/

namespace Sys2Proof.Machine

open Sys2Proof

/-- `e.start <= addr and addr <= e.end`, unsigned (44_dispatcher.md R121). -/
def contains (e : Entry) (addr : Addr) : Bool := Nat.ble e.start addr.toNat && Nat.ble addr.toNat e.stop

/-- What the lookup yields: kind, unit, offset (44_dispatcher.md R121). -/
structure Hit where
  kind : RegionKind
  unit : Nat
  off  : Addr
  deriving DecidableEq, Repr

/-- `Lookup(tab, addr)`: the first entry that contains the address, else kind `UNMAPPED` with the address as offset
(44_dispatcher.md R121, R126). -/
def lookup : List Entry → Addr → Hit
  | [], addr => ⟨.unmapped, 0, addr⟩
  | e :: rest, addr =>
    if contains e addr then ⟨e.kind, e.unit, BitVec.ofNat 24 (addr.toNat - e.start)⟩ else lookup rest addr

/-- `BusRead(addr)` up to the operation map: `T` and the unit (44_dispatcher.md R121). -/
def busRead (c : Config) (addr : Addr) : Txn :=
  let h := lookup c.rtab addr
  readTxn h.kind h.unit h.off

/-- `BusWrite(addr, W)` up to the operation map (44_dispatcher.md R121). -/
def busWrite (c : Config) (addr : Addr) (w : Word32) : Txn :=
  let h := lookup c.wtab addr
  writeTxn h.kind h.unit h.off w

end Sys2Proof.Machine
end

