-- ==== Sys2Proof/Machine/Present.lean ====
section
/-! DEFINITION. Machine/Present.lean: the boundary of the block: from what the environment presents (30_encoding.md R50) to
a decoded transaction, refusing what the interface cannot carry (20_memory.md R34; 30_encoding.md R61 (g)). -/

namespace Sys2Proof.Machine

open Sys2Proof

/-- `A[31:30]` (30_encoding.md R50). -/
def xKind (a : Word32) : BitVec 2 := a.extractLsb' 30 2

/-- `A[23:0]`: the byte address of a bus transaction (30_encoding.md R50). -/
def xAddr (a : Word32) : Addr := a.extractLsb' 0 24

/-- `A[29:24]`, zero in a bus transaction (30_encoding.md R50). -/
def xBusZero (a : Word32) : BitVec 6 := a.extractLsb' 24 6

/-- `A[29:26]`: the event code (30_encoding.md R50, R53). -/
def xEvent (a : Word32) : Nat := (a.extractLsb' 26 4 : BitVec 4).toNat

/-- `A[25:1]`, zero in an event (30_encoding.md R50). -/
def xEventZero (a : Word32) : BitVec 25 := a.extractLsb' 1 25

/-- The events with an argument: EV.SNDIRQ and EV.NVLOAD (30_encoding.md R53). -/
def hasArg (code : Nat) : Bool := code == 2 || code == 5

/-- The decoded transaction of an X-format pair in a configuration (30_encoding.md R50, R51; 44_dispatcher.md R121). -/
def resolveX (c : Config) (a w : Word32) : Except Refusal Txn :=
  match (xKind a).toNat with
  | 0 =>
    if xBusZero a = 0 ∧ w = 0 then
      if a.getLsbD 0 then .error .oddAddress else .ok (busRead c (xAddr a))
    else .error .malformedTransaction
  | 1 =>
    if xBusZero a = 0 then
      if a.getLsbD 0 then .error .oddAddress else .ok (busWrite c (xAddr a) w)
    else .error .malformedTransaction
  | 2 =>
    if 7 ≤ xEvent a then .error (.undecodable (.reservedEvent (xEvent a)))
    else if xEventZero a = 0 ∧ w = 0 ∧ (hasArg (xEvent a) ∨ a.getLsbD 0 = false) then .ok ⟨a, 0, 0⟩
    else .error .malformedTransaction
  | _ => .error (.undecodable .reservedKind)

/-- A transaction presented in decoded form: an odd offset is refused like an odd address (20_memory.md R34). -/
def resolveT (d : Txn) : Except Refusal Txn :=
  if (tKind d.t).toNat < 2 ∧ d.t.getLsbD 0 = true then .error .oddAddress else .ok d

/-- The decoded transaction of a presented operation. -/
def resolve (c : Config) : Form → Except Refusal Txn
  | .x a w => resolveX c a w
  | .t d => resolveT d

end Sys2Proof.Machine
end

