-- ==== Sys2Proof/Machine/Step.lean ====
section
/-! DEFINITION. Machine/Step.lean: one step: the block takes the next presented operation, runs it to completion and waits
for the next (00_scope.md R4; 10_state.md R22; 20_memory.md R40). -/

namespace Sys2Proof.Machine

open Sys2Proof

/-- One step. An ill-formed configuration is refused before any operation (44_dispatcher.md R122). With nothing presented
the block waits, unchanged (10_state.md R22). Otherwise the first presented operation is resolved at the boundary,
decoded and run. -/
def step (s : State) : Host.Outcome State Fault Refusal :=
  if configOk s.cfg then
    match s.pending with
    | [] => .next s
    | p :: rest =>
      match resolve s.cfg p.form with
      | .error r => .refused r
      | .ok d =>
        match decode s.cfg.guwIn1Off d with
        | .error e => .refused (.undecodable e)
        | .ok i => exec i (s.take p rest)
  else .refused .illFormedConfig

/-- The environment's values beside a transaction presented by `withFetchWord`: quiet, but for an image of `NV_BYTES` zero
bytes, which an EV.NVLOAD with argument 1 needs beside it (30_encoding.md R53). -/
def State.fetchEnv (s : State) : Env := { Env.quiet with image := List.replicate s.cfg.nvBytes 0 }

/-- The state with the transaction whose bits are `w` presented as the next operation, in decoded form (log 3), so that the
next step runs exactly it. -/
def State.withFetchWord (s : State) (_nbits w : Nat) : State :=
  { s with pending := { form := .t (txnOfBits w), env := s.fetchEnv } :: s.pending }

end Sys2Proof.Machine
end

