-- ==== Sys2Proof/Machine/Listing.lean ====
section
/-! DEFINITION. Machine/Listing.lean: the lines and pseudo-operations of the spec's listings as X-format pairs
(30_encoding.md R62, R63), and what the CPU takes of a read for a byte load (20_memory.md R31). -/

namespace Sys2Proof.Machine

open Sys2Proof

/-- `RD addr` (30_encoding.md R62). -/
def listRd (addr : Addr) : Form := .x ((0 : BitVec 8) ++ addr) 0

/-- `WR addr, W` (30_encoding.md R62). -/
def listWr (addr : Addr) (w : Word32) : Form := .x ((0x40 : BitVec 8) ++ addr) w

/-- `EV name` by its code, with its argument bit (30_encoding.md R53, R62). -/
def listEv (code : BitVec 4) (arg : Bool) : Form :=
  .x ((2 : BitVec 2) ++ code ++ (0 : BitVec 25) ++ BitVec.ofBool arg) 0

/-- The write word of a CPU word store: `0x0000 ∥ d` (20_memory.md R32). -/
def wordStore (d : Word) : Word32 := (0 : Word) ++ d

/-- The write word of a CPU byte store to the even address: `0x00FF ∥ b ∥ 0x00` (20_memory.md R32). -/
def evenByteStore (b : Byte) : Word32 := (0x00FF : Word) ++ b ++ (0 : Byte)

/-- The write word of a CPU byte store to the odd address: `0xFF00 ∥ 0x00 ∥ b` (20_memory.md R32). -/
def oddByteStore (b : Byte) : Word32 := (0xFF00 : Word) ++ (0 : Byte) ++ b

/-- `WRW addr, d16` (30_encoding.md R63). -/
def listWrw (addr : Addr) (d : Word) : Form := listWr addr (wordStore d)

/-- `WRH addr, b8` (30_encoding.md R63). -/
def listWrh (addr : Addr) (b : Byte) : Form := listWr addr (evenByteStore b)

/-- `WRL addr, b8`, `addr` odd (30_encoding.md R63). -/
def listWrl (addr : Addr) (b : Byte) : Form := listWr (addr - 1) (oddByteStore b)

/-- The data of `EEW di, cs_n, clk` (30_encoding.md R63). -/
def eewData (l : Layout) (di csN clk : Bool) : Word :=
  match l with
  | .std => (if di then 0x0800 else 0) ||| (if clk then 0x0400 else 0) ||| (if csN then 0x0200 else 0)
  | .guw => (if di then 0x0080 else 0) ||| (if clk then 0x0040 else 0) ||| (if csN then 0x0020 else 0)

/-- `EEW di, cs_n, clk` at the variant's EEPROM address (30_encoding.md R63). -/
def listEew (l : Layout) (eeAddr : Addr) (di csN clk : Bool) : Form := listWrw eeAddr (eewData l di csN clk)

/-- A CPU byte load's choice of a read value: `[15:8]` at the even address, `[7:0]` at the odd one (20_memory.md R31). -/
def loadedByte (odd : Bool) (v : Word) : Byte := if odd then v.extractLsb' 0 8 else v.extractLsb' 8 8

end Sys2Proof.Machine
end

