-- ==== Sys2Proof/Safety.lean ====
section
/-! DEFINITION. Safety.lean: the terms in which statements speak of a good state and a good run: the invariants the spec
gives the state (41_irq_cause.md R80, R72; 42_eeprom.md R94, R99, R100; 10_state.md R15), and what the interface can
carry. -/

namespace Sys2Proof.Safety

open Sys2Proof Sys2Proof.Machine

/-- 41_irq_cause.md R80: the line is the OR of the three flags. -/
abbrev LineAgrees (s : State) : Prop := s.irqLine = (s.vblankPending || s.soundPending || s.unknownPending)

/-- 41_irq_cause.md R72, 60_exceptions.md R172: in the ALT variant `unknownPending` is never set. -/
abbrev UnknownTiedOff (s : State) : Prop := protoOf s.cfg.variant = .alt → s.unknownPending = false

/-- 10_state.md R15: the array has `NV_BYTES` bytes. -/
abbrev ArrayWhole (s : State) : Prop := s.eeCore.nv.length = s.cfg.nvBytes

/-- 42_eeprom.md R94: with EEREF configured, the core's copies of the three levels are the pin latches. -/
abbrev CopiesAgree (s : State) : Prop :=
  s.cfg.eecore = .eeref →
    s.eeCore.ref.di = s.eeDi ∧ s.eeCore.ref.cs = s.eeCs ∧ s.eeCore.ref.clk = s.eeClk

/-- 42_eeprom.md R99, R100: between operations the command register of EEREF holds no complete command: at most 24 bits,
the first of them the start bit, and nine or more only while a WRITE is being entered; while data is being sent, and while
chip-select is asserted, it is empty. -/
abbrev CommandOpen (s : State) : Prop :=
  s.cfg.eecore = .eeref →
    s.eeCore.ref.sr.length ≤ 24
      ∧ (s.eeCore.ref.sr ≠ [] → s.eeCore.ref.sr.getD 0 false = true)
      ∧ (9 ≤ s.eeCore.ref.sr.length → eerefOpcode s.eeCore.ref.sr = (false, true))
      ∧ (s.eeCore.ref.sending = true → s.eeCore.ref.sr = [])
      ∧ (s.eeCore.ref.cs = true → s.eeCore.ref.sr = [] ∧ s.eeCore.ref.sending = false)

/-- The invariant of the block. -/
structure Inv (s : State) : Prop where
  memory  : Memory.wf s.mem = true
  line    : LineAgrees s
  unknown : UnknownTiedOff s
  array   : ArrayWhole s
  copies  : CopiesAgree s
  command : CommandOpen s

/-- An operation may run here: the configuration is well-formed and the operation presented first is one the interface can
carry (30_encoding.md R50, R61 (g); 20_memory.md R34; 46_nvram_host.md R160). -/
def Presentable (s : State) (a w : Word32) (e : Env) : Prop :=
  match (xKind a).toNat with
  | 0 => xBusZero a = 0 ∧ w = 0 ∧ a.getLsbD 0 = false
  | 1 => xBusZero a = 0 ∧ a.getLsbD 0 = false
  | 2 => xEvent a < 7 ∧ xEventZero a = 0 ∧ w = 0 ∧ (hasArg (xEvent a) = true ∨ a.getLsbD 0 = false)
      ∧ (xEvent a = 5 → a.getLsbD 0 = true → e.image.length = s.cfg.nvBytes)
  | _ => False

/-- Operations one after another, with nothing between them (20_memory.md R40), stopping where one stops. -/
def runOps : List Instr → State → Result
  | [], s => .next s
  | i :: rest, s =>
    match exec i s with
    | .next t => runOps rest t
    | .fault f => .fault f
    | .refused r => .refused r

/-- The standard cause value as 30_encoding.md R57 writes it. -/
def stdCause (vblank unknown : Bool) : Word :=
  0x0003 &&& ~~~((BitVec.ofBool vblank).setWidth 16 ||| ((BitVec.ofBool unknown).setWidth 16 <<< 1))

/-- The alternate cause value as 30_encoding.md R57 writes it. -/
def altCause (vblank : Bool) : Word := 0x0007 &&& ~~~((BitVec.ofBool vblank).setWidth 16)

/-- The merge as 20_memory.md R36 writes it: `(old AND W[31:16]) OR (W[15:0] AND NOT W[31:16])`. -/
def mergeWord (old : Word) (w : Word32) : Word := (old &&& wLane w) ||| (wData w &&& ~~~wLane w)

/-- The word at `off` of unit `u` is `v`, high byte at the lower offset, and every other byte of every unit is what it was
(20_memory.md R33; 45_storage_and_sound.md R155). -/
def StoredOnly (s t : State) (u : UnitId) (off : Nat) (v : Word) : Prop :=
  readByte t u off = v.extractLsb' 8 8 ∧ readByte t u (off + 1) = v.extractLsb' 0 8
    ∧ ∀ u' a, ¬(u' = u ∧ (a = off ∨ a = off + 1)) → readByte t u' a = readByte s u' a

/-- Every byte of every unit is what it was. -/
def StorageKept (s t : State) : Prop := ∀ u a, readByte t u a = readByte s u a

/-- The place in storage that a looked-up bus access reaches: the unit its entry names and the offset used there, which the
mirrored layer masks (45_storage_and_sound.md R144, R145); none for the kinds without a unit. -/
def storagePlace (c : Config) (h : Hit) : Option (UnitId × Addr) :=
  (entryUnit h.kind h.unit).map fun u => (u, if h.kind = .vram8 then mirrored c h.off else h.off)

/-- The operations that write a storage unit (45_storage_and_sound.md R138 to R151). -/
def storesToUnit : Instr → Bool
  | .wrRam _ _ _ => true
  | .wrSpriteram _ _ _ => true
  | .wrVram16 _ _ _ => true
  | .wrVram8 _ _ _ => true
  | .wrPalette _ _ _ => true
  | .wrVideoregs _ _ _ => true
  | .wrLayerctrl _ _ _ => true
  | _ => false

/-- The operations that may change the EEPROM (42_eeprom.md R88): its two control writes, EV.NVLOAD and EV.RESET. -/
def drivesEeprom : Instr → Bool
  | .wrEeStd _ _ => true
  | .wrEeGuw _ _ => true
  | .evNvload _ => true
  | .evReset => true
  | _ => false

/-- The calls an operation may append to the trace, by operation and by what the call carries of its operands
(45_storage_and_sound.md R143, R145, R147, R152, R153; 46_nvram_host.md R160, R161). -/
def emits : Instr → Call → Bool
  | .wrVram16 layer _ _, .dirtyTile layer' _ => layer' == layer
  | .wrVram8 layer _ _, .dirtyTile layer' _ => layer' == layer
  | .wrPalette _ off _, .paletteWrite off' _ => off' == off
  | .wrSndReg off w, .sndRegWrite off' byte => off' == off && byte == w.extractLsb' 0 8
  | .wrSndData off w, .sndDataWrite off' byte => off' == off && byte == w.extractLsb' 0 8
  | .evNvload hasImage, .diagNvramInit => !hasImage
  | .evNvsave, .nvSaveImage _ => true
  | _, _ => false

/-- The operations that append a call whenever they complete: every VRAM and palette write, an EV.NVLOAD without image, and
EV.NVSAVE (45_storage_and_sound.md R143, R145, R147; 46_nvram_host.md R160, R161). A sound write appends one only if its lane
qualifier is zero (R152, R153). -/
def alwaysEmits : Instr → Bool
  | .wrVram16 _ _ _ => true
  | .wrVram8 _ _ _ => true
  | .wrPalette _ _ _ => true
  | .evNvload hasImage => !hasImage
  | .evNvsave => true
  | _ => false

/-- The bus reads: rows 1 to 24 of the operation map (30_encoding.md R60). -/
def isRead (i : Instr) : Bool := Nat.ble i.rowNumber 24

/-- The three acknowledging reads (20_memory.md R37). -/
def acknowledges : Instr → Bool
  | .rdCauseStdAckv => true
  | .rdCauseStdAcku => true
  | .rdCauseAltAckv => true
  | _ => false

/-- `EEW di, cs_n, clk` as an operation (30_encoding.md R63). -/
def eeWrite (l : Layout) (di csN clk : Bool) : Instr :=
  match l with
  | .std => .wrEeStd 0 (wordStore (eewData .std di csN clk))
  | .guw => .wrEeGuw 0 (wordStore (eewData .guw di csN clk))

/-- Clock one bit into the EEPROM with chip-select released: the bit with the clock low, then with the clock high
(70_reset_and_hazards.md R195). -/
def clockBit (l : Layout) (b : Bool) : List Instr := [eeWrite l b true false, eeWrite l b true true]

/-- Clock a list of bits, first bit first. -/
def clockIn (l : Layout) (bits : List Bool) : List Instr := bits.flatMap (clockBit l)

/-- The `n` low bits of a value, most significant bit first (42_eeprom.md R100). -/
def msbFirst {w : Nat} (n : Nat) (v : BitVec w) : List Bool := (List.range n).map fun i => v.getLsbD (n - 1 - i)

/-- READ `a`: start bit, opcode 10, address (42_eeprom.md R100). -/
def readCommand (a : BitVec 6) : List Bool := [true, true, false] ++ msbFirst 6 a

/-- ERASE `a`: start bit, opcode 11, address (42_eeprom.md R100). -/
def eraseCommand (a : BitVec 6) : List Bool := [true, true, true] ++ msbFirst 6 a

/-- WRITE `a`, `d`: start bit, opcode 01, address, data (42_eeprom.md R100). -/
def writeCommand (a : BitVec 6) (d : Word) : List Bool := [true, false, true] ++ msbFirst 6 a ++ msbFirst 16 d

/-- Write enable: start bit, opcode 00, `11` and four bits of no account (42_eeprom.md R100). -/
def enableCommand (x : BitVec 4) : List Bool := [true, false, false, true, true] ++ msbFirst 4 x

/-- Write disable: start bit, opcode 00, `00` and four bits of no account (42_eeprom.md R100). -/
def disableCommand (x : BitVec 4) : List Bool := [true, false, false, false, false] ++ msbFirst 4 x

/-- Write-all and erase-all: start bit, opcode 00, `01` or `10`, and four bits of no account (42_eeprom.md R100). -/
def allCommand (b : Bool) (x : BitVec 4) : List Bool := [true, false, false, b, !b] ++ msbFirst 4 x

/-- Nothing outside the EEPROM changed. -/
def OnlyEepromChanged (s t : State) : Prop :=
  t = { s with eeDi := t.eeDi, eeCs := t.eeCs, eeClk := t.eeClk, eeCore := t.eeCore }

/-- Chip-select is asserted and the serial interface is reset: no command, no read-out, the output bit 1; the array, the lock
and everything outside the EEPROM are what they were (42_eeprom.md R97). -/
def InterfaceReset (s t : State) : Prop :=
  t.eeCs = true ∧ t.eeCore.ref.sr = [] ∧ t.eeCore.ref.sending = false ∧ eeDo t = true
    ∧ t.eeCore.nv = s.eeCore.nv ∧ t.eeCore.ref.locked = s.eeCore.ref.locked ∧ OnlyEepromChanged s t

/-- The reference core is configured with its 128-byte array (42_eeprom.md R93), and waits for a start bit. -/
abbrev EerefIdle (s : State) : Prop :=
  s.cfg.eecore = .eeref ∧ s.eeCore.nv.length = 128 ∧ s.eeCore.ref.sr = [] ∧ s.eeCore.ref.sending = false

end Sys2Proof.Safety
end

