-- ==== Sys2Proof/Certificates/Slice0/Obligations.lean ====
section
/-! DEFINITION. Certificates/Slice0/Obligations.lean: the statements for the provers. Each is about every state and every
configuration its hypotheses admit, not about states a run reaches. An equation `exec i s = .next { s with … }` says the
result, the frame (every field not named is unchanged, storage among them) and that the operation completes. -/

open Sys2Proof Sys2Proof.Machine Sys2Proof.Safety

/-! ## Encoding -/

/-- 30_encoding.md R51, R52, R53: an operation's own word decodes to the operation, with every operand at every value the
encoding admits. -/
def Obligations.DecodeInvertsEncode : Prop :=
  ∀ (in1 : Addr) (i : Instr), i.wf in1 = true → decode in1 (encode in1 i) = .ok i

/-- 30_encoding.md R60 (its map is the spec's decision D28): the decoder's answer is the first row of the map whose masked
bits match, for every word; and it refuses exactly the words no row matches (R61 (g)). -/
def Obligations.DecoderAnswersFirstMatchingRow : Prop :=
  ∀ (in1 : Addr) (d : Txn),
    match decode in1 d with
    | .ok i => firstRow in1 d.t = some i.rowNumber
    | .error _ => firstRow in1 d.t = none

/-- 30_encoding.md R51: no bit of a bus transaction's word is dropped: what was decoded encodes to the word it came from,
and for a write to the write word beside it. -/
def Obligations.DecodedOperationKeepsItsWord : Prop :=
  ∀ (in1 : Addr) (d : Txn) (i : Instr), decode in1 d = .ok i →
    (tKind d.t ≠ 2 → (encode in1 i).t = d.t) ∧ (tKind d.t = 1 → (encode in1 i).w = d.w)

/-- 20_memory.md R34 with 30_encoding.md R60: at an even offset the decoder only gives well-formed operations. -/
def Obligations.EvenWordsDecodeWellFormed : Prop :=
  ∀ (in1 : Addr) (d : Txn) (i : Instr), (tKind d.t ≠ 2 → d.t.getLsbD 0 = false) → decode in1 d = .ok i →
    i.wf in1 = true

/-- 30_encoding.md R61 (g): kind `0b11` and event codes 7 to 15 are refused by name, whatever the other bits are. -/
def Obligations.ReservedWordsAreRefused : Prop :=
  ∀ (in1 : Addr) (d : Txn),
    (tKind d.t = 3 → decode in1 d = .error .reservedKind)
      ∧ (tKind d.t = 2 → 7 ≤ (tCode d.t).toNat → decode in1 d = .error (.reservedEvent (tCode d.t).toNat))

/-- 30_encoding.md R60: words written out from the map decode to the rows' operations. -/
def Obligations.WrittenOutWordsDecode : Prop :=
  decode 2 ⟨0x38000004, 0, 0⟩ = .ok .rdCauseStdAckv
    ∧ decode 2 ⟨0x3C000000, 0, 0⟩ = .ok .rdCauseAltAckv
    ∧ decode 2 ⟨0x34000002, 0, 0⟩ = .ok .rdInGuwP1e
    ∧ decode 2 ⟨0x10000104, 1, 0⟩ = .ok (.rdVram16 1 0x104)
    ∧ decode 2 ⟨0x64000002, 0, 0x000000AB⟩ = .ok (.wrSndData 2 0x000000AB)
    ∧ decode 2 ⟨0x68000000, 0, 0x00000E00⟩ = .ok (.wrEeStd 0 0x00000E00)
    ∧ decode 2 ⟨0x88000001, 0, 0⟩ = .ok (.evSndirq true)

/-! ## The step and the dispatcher -/

/-- 10_state.md R22, 20_memory.md R40: a step takes the first presented operation, resolves and decodes it and runs it from
the state whose samples are the operation's and whose last outputs are cleared; with nothing presented the block waits.
30_encoding.md R50, R53 and 44_dispatcher.md R121 (the formats are the spec's decision D28, the refusal of an odd address its
decision D4): an X-format read is what the read table makes of `A[23:0]`, a write what the write table makes of it with `W`,
and an event the event of its code with its argument bit. A transaction presented in decoded form, the model's own port (log
3), is itself. -/
def Obligations.StepRunsDecodedOperation : Prop :=
  (∀ (s : State) (p : Presented) (rest : List Presented) (d : Txn) (i : Instr),
    configOk s.cfg = true → s.pending = p :: rest → resolve s.cfg p.form = .ok d →
    decode s.cfg.guwIn1Off d = .ok i →
    step s = exec i { s with pending := rest, env := p.env, rdata := none, view := none })
  ∧ (∀ s : State, configOk s.cfg = true → s.pending = [] → step s = .next s)
  ∧ (∀ (c : Config) (addr : Addr) (w : Word32),
    resolve c (.x ((0 : BitVec 8) ++ addr) 0) = (if addr.getLsbD 0 then .error .oddAddress else .ok (busRead c addr))
      ∧ resolve c (.x ((0x40 : BitVec 8) ++ addr) w) =
        (if addr.getLsbD 0 then .error .oddAddress else .ok (busWrite c addr w)))
  ∧ (∀ (c : Config) (in1 : Addr) (code : BitVec 4) (arg : Bool) (a : Word32) (i : Instr),
    a = (2 : BitVec 2) ++ code ++ (0 : BitVec 25) ++ BitVec.ofBool arg → (arg = true → code = 2 ∨ code = 5) →
    [.evReset, .evVblank, .evSndirq arg, .evUnknown, .evRender, .evNvload arg, .evNvsave][code.toNat]? = some i →
    resolve c (.x a 0) = .ok ⟨a, 0, 0⟩ ∧ decode in1 ⟨a, 0, 0⟩ = .ok i)
  ∧ ∀ (c : Config) (d : Txn),
    resolve c (.t d) = if (tKind d.t).toNat < 2 ∧ d.t.getLsbD 0 = true then .error .oddAddress else .ok d

/-- 00_scope.md R5: in a well-formed configuration every operation the interface can carry completes, whatever the state and
the samples; what it cannot carry is refused; an ill-formed configuration is refused; and no step reports a fault. Which
configurations and which transactions are refused is R122, R34, R50 and R61 as the model reads them: three checks beyond WF1 to
WF9 are DEDUCED (log 11), and so is the list of transactions refused at the boundary (log 13). -/
def Obligations.EveryPresentedOperationCompletes : Prop :=
  (∀ (s : State) (a w : Word32) (e : Env) (rest : List Presented),
    configOk s.cfg = true → s.pending = ⟨.x a w, e⟩ :: rest →
    (Presentable s a w e → ∃ t, step s = .next t) ∧ (¬Presentable s a w e → ∃ r, step s = .refused r))
  ∧ (∀ s : State, configOk s.cfg = false → step s = .refused .illFormedConfig)
  ∧ ∀ (s : State) (f : Fault), step s ≠ .fault f

/-- 44_dispatcher.md R121: "dispatch selects the first entry whose range contains the requested address", for reads in the
read table and for writes in the write table, and the word formed carries its kind, its unit and the offset from its start;
with no such entry the kind is `UNMAPPED` and the offset the address. -/
def Obligations.DispatchSelectsFirstContainingEntry : Prop :=
  (∀ (c : Config) (addr : Addr) (w : Word32) (before after : List Entry) (e : Entry),
    (∀ x ∈ before, ¬(x.start ≤ addr.toNat ∧ addr.toNat ≤ x.stop)) → e.start ≤ addr.toNat → addr.toNat ≤ e.stop →
    (c.rtab = before ++ e :: after →
        busRead c addr = ⟨(0 : BitVec 2) ++ e.kind.code ++ (0 : BitVec 2) ++ (addr - BitVec.ofNat 24 e.start), e.unit, 0⟩)
      ∧ (c.wtab = before ++ e :: after →
        busWrite c addr w =
          ⟨(1 : BitVec 2) ++ e.kind.code ++ (0 : BitVec 2) ++ (addr - BitVec.ofNat 24 e.start), e.unit, w⟩))
  ∧ ∀ (c : Config) (addr : Addr) (w : Word32),
    ((∀ x ∈ c.rtab, ¬(x.start ≤ addr.toNat ∧ addr.toNat ≤ x.stop)) →
        busRead c addr = ⟨(0 : BitVec 8) ++ addr, 0, 0⟩)
      ∧ ((∀ x ∈ c.wtab, ¬(x.start ≤ addr.toNat ∧ addr.toNat ≤ x.stop)) →
        busWrite c addr w = ⟨(0x40 : BitVec 8) ++ addr, 0, w⟩)

/-- 44_dispatcher.md R126 (the spec's decision D6): in a table without overlap the order of the entries is unobservable. -/
def Obligations.TableOrderIsUnobservable : Prop :=
  ∀ (tab tab' : List Entry) (addr : Addr), wf3 tab = true → tab.Perm tab' → lookup tab addr = lookup tab' addr

/-- 30_encoding.md R61 (b): a well-formed configuration never selects a reserved row. 44_dispatcher.md R127, 00_scope.md R3: where
its tables contain what R127 says a variant routes (in which direction is partly DEDUCED, log 20), the dispatcher reaches
every kind and every layer the variant has, one layer being `VRAM8` in `DDONPACH` and none elsewhere; and in every well-formed
configuration a VRAM access reaches a layer of the variant, by that layer's kind. -/
def Obligations.WellFormedConfigSelectsTheVariantsRows : Prop :=
  ∀ c : Config, configOk c = true →
    (∀ (addr : Addr) (w : Word32),
      (∀ bits, decode c.guwIn1Off (busRead c addr) ≠ .ok (.rdRsvd bits))
        ∧ ∀ bits v, decode c.guwIn1Off (busWrite c addr w) ≠ .ok (.wrRsvd bits v))
    ∧ (∀ (addr : Addr) (h : Hit), h = lookup c.rtab addr ∨ h = lookup c.wtab addr → h.kind = .vram16 ∨ h.kind = .vram8 →
      h.unit < nLayersOf c.variant ∧ h.kind = vramKindOf c h.unit)
    ∧ (routesVariant c = true →
      (∀ k ∈ readKindsOf c.variant, ∃ addr u, addr.getLsbD 0 = false ∧ busRead c addr = readTxn k u 0)
      ∧ (∀ k ∈ writeKindsOf c.variant, ∃ addr u, addr.getLsbD 0 = false ∧ ∀ w, busWrite c addr w = writeTxn k u 0 w)
      ∧ (∀ layer, layer < nLayersOf c.variant →
        (∃ addr, addr.getLsbD 0 = false ∧ busRead c addr = readTxn (vramKindOf c layer) layer 0)
        ∧ (∃ addr, addr.getLsbD 0 = false ∧ ∀ w, busWrite c addr w = writeTxn (vramKindOf c layer) layer 0 w)
        ∧ ∃ addr, addr.getLsbD 0 = false ∧ ∀ w, busWrite c addr w = writeTxn .layerctrl layer 0 w)
      ∧ ((List.range (nLayersOf c.variant)).map (vramKindOf c)).count .vram8 = if c.variant = .ddonpach then 1 else 0)

/-- 20_memory.md R40, 10_state.md R18, 44_dispatcher.md R128: a step takes exactly one operation, its samples stay those the
environment gave with it, and no step, this or an idle one, changes the configuration. -/
def Obligations.StepTakesOneOperationAndKeepsTheConfiguration : Prop :=
  ∀ s t : State, step s = .next t →
    t.cfg = s.cfg ∧ ∀ (p : Presented) (rest : List Presented), s.pending = p :: rest → t.pending = rest ∧ t.env = p.env

/-- 45_storage_and_sound.md R143, R145, R147, R152, R153, 46_nvram_host.md R160, R161: an operation appends no call, or one call
of the kind its rule states, and removes none; a VRAM write, a palette write, an EV.NVLOAD without image and EV.NVSAVE always
append theirs. That a VRAM write emits one notice and no more, and on every write, is the spec's decision D21; the byte of a
sound write is its decision D19 and the offset of a palette write its decision D23 (log 18). -/
def Obligations.TraceGrowsByAtMostOneCall : Prop :=
  ∀ (i : Instr) (s t : State), exec i s = .next t →
    (t.trace = s.trace ∧ alwaysEmits i = false) ∨ ∃ c, t.trace = s.trace ++ [c] ∧ emits i c = true

/-! ## The interrupt-cause latch -/

/-- 41_irq_cause.md R70. -/
def Obligations.VblankSetsItsFlagAndTheLine : Prop :=
  ∀ s : State, exec .evVblank s = .next { s with vblankPending := true, irqLine := true }

/-- 41_irq_cause.md R71. -/
def Obligations.SoundFlagFollowsTheEventsLevel : Prop :=
  ∀ (s : State) (active : Bool), exec (.evSndirq active) s =
    .next { s with soundPending := active, irqLine := s.vblankPending || active || s.unknownPending }

/-- 41_irq_cause.md R72 (the spec's decision D10): the third source sets its flag in the STD variants and is tied off in
the ALT variant. -/
def Obligations.UnknownSourceSetsItsFlagOnlyInStd : Prop :=
  ∀ s : State,
    (protoOf s.cfg.variant = .std → exec .evUnknown s = .next { s with unknownPending := true, irqLine := true })
      ∧ (protoOf s.cfg.variant = .alt → exec .evUnknown s =
        .next { s with irqLine := s.vblankPending || s.soundPending || s.unknownPending })

/-- 41_irq_cause.md R73, R74, R75 and 30_encoding.md R57: which word selects each read, what it returns, and what it clears. That
the value is formed from the flags before the clear, and that the window is these four offsets, is the spec's decision D9 (log
18). -/
def Obligations.StandardCauseReads : Prop :=
  ∀ (in1 : Addr) (u : Nat) (s : State),
    (∀ off : Addr, off = 0 ∨ off = 2 →
      decode in1 (readTxn .irqcauseStd u off) = .ok (.rdCauseStdPeek off)
        ∧ exec (.rdCauseStdPeek off) s =
          .next { s with
            irqLine := s.vblankPending || s.soundPending || s.unknownPending
            rdata := some (stdCause s.vblankPending s.unknownPending) })
    ∧ decode in1 (readTxn .irqcauseStd u 4) = .ok .rdCauseStdAckv
    ∧ exec .rdCauseStdAckv s =
      .next { s with
        vblankPending := false
        irqLine := s.soundPending || s.unknownPending
        rdata := some (stdCause s.vblankPending s.unknownPending) }
    ∧ decode in1 (readTxn .irqcauseStd u 6) = .ok .rdCauseStdAcku
    ∧ exec .rdCauseStdAcku s =
      .next { s with
        unknownPending := false
        irqLine := s.vblankPending || s.soundPending
        rdata := some (stdCause s.vblankPending s.unknownPending) }

/-- 41_irq_cause.md R76, R77 and 30_encoding.md R57. That the value is formed from the flag before the clear, and that the window
is these four offsets, is the spec's decision D9 (log 18). -/
def Obligations.AlternateCauseReads : Prop :=
  ∀ (in1 : Addr) (u : Nat) (s : State),
    (∀ off : Addr, off = 2 ∨ off = 4 ∨ off = 6 →
      decode in1 (readTxn .irqcauseAlt u off) = .ok (.rdCauseAltPeek off)
        ∧ exec (.rdCauseAltPeek off) s =
          .next { s with
            irqLine := s.vblankPending || s.soundPending || s.unknownPending
            rdata := some (altCause s.vblankPending) })
    ∧ decode in1 (readTxn .irqcauseAlt u 0) = .ok .rdCauseAltAckv
    ∧ exec .rdCauseAltAckv s =
      .next { s with
        vblankPending := false
        irqLine := s.soundPending || s.unknownPending
        rdata := some (altCause s.vblankPending) }

/-- 41_irq_cause.md R79 (the spec's decision D9): beyond the 8-byte window both protocols read 0 and acknowledge nothing. -/
def Obligations.CauseReadsBeyondTheWindowReturnZero : Prop :=
  ∀ (in1 off : Addr) (u : Nat) (s : State), evenOff off = true → 8 ≤ off.toNat →
    decode in1 (readTxn .irqcauseStd u off) = .ok (.rdCauseStdOor off)
      ∧ decode in1 (readTxn .irqcauseAlt u off) = .ok (.rdCauseAltOor off)
      ∧ exec (.rdCauseStdOor off) s =
        .next { s with irqLine := s.vblankPending || s.soundPending || s.unknownPending, rdata := some 0x0000 }
      ∧ exec (.rdCauseAltOor off) s =
        .next { s with irqLine := s.vblankPending || s.soundPending || s.unknownPending, rdata := some 0x0000 }

/-- 60_exceptions.md R172, 10_state.md R11: the only operations that change a pending flag, and to what. -/
def Obligations.OnlyTheNamedOperationsChangeAFlag : Prop :=
  ∀ (i : Instr) (s t : State), exec i s = .next t →
    (t.vblankPending ≠ s.vblankPending →
        (i = .evVblank ∧ t.vblankPending = true)
          ∨ ((i = .rdCauseStdAckv ∨ i = .rdCauseAltAckv ∨ i = .evReset) ∧ t.vblankPending = false))
      ∧ (t.soundPending ≠ s.soundPending →
        i = .evSndirq t.soundPending ∨ (i = .evReset ∧ t.soundPending = false))
      ∧ (t.unknownPending ≠ s.unknownPending →
        (i = .evUnknown ∧ protoOf s.cfg.variant = .std ∧ t.unknownPending = true)
          ∨ ((i = .rdCauseStdAcku ∨ i = .evReset) ∧ t.unknownPending = false))

/-- 41_irq_cause.md R80: after every operation that leaves the block running the line is the OR of the three flags, if it
was before; and after an operation that changed a flag it is, whatever it was before. -/
def Obligations.LineIsTheOrOfTheFlags : Prop :=
  ∀ (i : Instr) (s t : State), exec i s = .next t →
    (LineAgrees s → LineAgrees t)
      ∧ ((t.vblankPending, t.soundPending, t.unknownPending) ≠ (s.vblankPending, s.soundPending, s.unknownPending) →
        LineAgrees t)

/-- 20_memory.md R37: "Every other read leaves the block's state unchanged": a read that does not acknowledge changes
nothing but the value it returns and, for a draw, the count of draws, which is the model's own (log 5). -/
def Obligations.OtherReadsChangeNothing : Prop :=
  ∀ (i : Instr) (s t : State), isRead i = true → acknowledges i = false → LineAgrees s → exec i s = .next t →
    t = { s with rdata := t.rdata, draws := t.draws } ∧ (t.rdata).isSome = true

/-- 10_state.md R29 (a), 41_irq_cause.md R81: the sound flag and the line show in no value the block returns, in no call it
emits and in nothing the renderer is handed, and an operation that completes does so whatever they are. -/
def Obligations.SoundFlagIsInvisible : Prop :=
  ∀ (i : Instr) (s t : State) (sound line : Bool), exec i s = .next t →
    ∃ t', exec i { s with soundPending := sound, irqLine := line } = .next t'
      ∧ t'.rdata = t.rdata ∧ t'.view = t.view ∧ t'.trace = t.trace
      ∧ t'.vblankPending = t.vblankPending ∧ t'.unknownPending = t.unknownPending ∧ t'.eeCore = t.eeCore
      ∧ StorageKept t t'

/-- 60_exceptions.md R178: EV.VBLANK, EV.UNKNOWN and EV.SNDIRQ "write different flags and commute"; of two EV.SNDIRQ the
last wins; and two ticks merge into one. -/
def Obligations.InterruptEventsCommuteAndMerge : Prop :=
  ∀ (s : State) (a b : Bool),
    runOps [.evVblank, .evSndirq a] s = runOps [.evSndirq a, .evVblank] s
      ∧ runOps [.evVblank, .evUnknown] s = runOps [.evUnknown, .evVblank] s
      ∧ runOps [.evUnknown, .evSndirq a] s = runOps [.evSndirq a, .evUnknown] s
      ∧ runOps [.evSndirq a, .evSndirq b] s = runOps [.evSndirq b] s
      ∧ runOps [.evVblank, .evVblank] s = runOps [.evVblank] s

/-- 60_exceptions.md R181, 70_reset_and_hazards.md R199: with no other flag pending the vblank line goes up with the tick and
down with the variant's acknowledging read; the other variant's offset acknowledges nothing. That the acknowledging read
reports the cause it clears is the spec's decision D9 (log 18). -/
def Obligations.AcknowledgeDropsTheVblankLine : Prop :=
  ∀ s : State, s.soundPending = false → s.unknownPending = false →
    ∃ t₁ t₂ t₃ t₄ t₅, exec .evVblank s = .next t₁ ∧ t₁.irqLine = true
      ∧ exec .rdCauseStdAckv t₁ = .next t₂ ∧ t₂.irqLine = false ∧ t₂.rdata = some 0x0002
      ∧ exec .rdCauseAltAckv t₁ = .next t₃ ∧ t₃.irqLine = false ∧ t₃.rdata = some 0x0006
      ∧ exec (.rdCauseStdPeek 0) t₁ = .next t₄ ∧ t₄.irqLine = true ∧ t₄.rdata = some 0x0002
      ∧ exec (.rdCauseAltPeek 4) t₁ = .next t₅ ∧ t₅.irqLine = true ∧ t₅.rdata = some 0x0006

/-! ## The EEPROM -/

/-- 42_eeprom.md R85, 30_encoding.md R55; the order of the three signals is the spec's decision D13 (R87), and the core is
any core of the contract R89. -/
def Obligations.StandardControlWriteDrivesTheThreeSignals : Prop :=
  ∀ (off : Addr) (w : Word32) (s : State),
    (w.extractLsb' 24 8 = 0 →
        exec (.wrEeStd off w) s =
          .next { s with
            eeDi := w.getLsbD 11
            eeCs := !w.getLsbD 9
            eeClk := w.getLsbD 10
            eeCore :=
              coreSetclk s.cfg.eecore
                (coreSetcs s.cfg.eecore (coreWrbit s.cfg.eecore s.eeCore (w.getLsbD 11)) (!w.getLsbD 9))
                s.eeClk (w.getLsbD 10) })
      ∧ (w.extractLsb' 24 8 ≠ 0 → exec (.wrEeStd off w) s = .next s)

/-- 42_eeprom.md R86, 30_encoding.md R56; the order of the three signals is the spec's decision D13 (R87). -/
def Obligations.GuwangeControlWriteDrivesTheThreeSignals : Prop :=
  ∀ (off : Addr) (w : Word32) (s : State),
    (w.extractLsb' 16 8 = 0 →
        exec (.wrEeGuw off w) s =
          .next { s with
            eeDi := w.getLsbD 7
            eeCs := !w.getLsbD 5
            eeClk := w.getLsbD 6
            eeCore :=
              coreSetclk s.cfg.eecore
                (coreSetcs s.cfg.eecore (coreWrbit s.cfg.eecore s.eeCore (w.getLsbD 7)) (!w.getLsbD 5))
                s.eeClk (w.getLsbD 6) })
      ∧ (w.extractLsb' 16 8 ≠ 0 → exec (.wrEeGuw off w) s = .next s)

/-- 70_reset_and_hazards.md R197: which CPU stores the two EEPROM registers and the sound ports respond to, and which they
ignore. The words of the CPU's stores are the spec's decision D2, the order in which the three EEPROM signals are driven its
decision D13, and the byte a sound port forwards its decision D19 (log 18). -/
def Obligations.OnlyTheWiredByteLanesRespond : Prop :=
  ∀ (off : Addr) (d : Word) (b : Byte) (s : State),
    exec (.wrEeStd off (wordStore d)) s = .next (eeDrive s (d.getLsbD 11) (!d.getLsbD 9) (d.getLsbD 10))
      ∧ exec (.wrEeStd off (evenByteStore b)) s = .next (eeDrive s (b.getLsbD 3) (!b.getLsbD 1) (b.getLsbD 2))
      ∧ exec (.wrEeStd off (oddByteStore b)) s = .next s
      ∧ exec (.wrEeGuw off (wordStore d)) s = .next (eeDrive s (d.getLsbD 7) (!d.getLsbD 5) (d.getLsbD 6))
      ∧ exec (.wrEeGuw off (evenByteStore b)) s = .next s
      ∧ exec (.wrEeGuw off (oddByteStore b)) s = .next (eeDrive s (b.getLsbD 7) (!b.getLsbD 5) (b.getLsbD 6))
      ∧ exec (.wrSndReg off (wordStore d)) s =
        .next { s with trace := s.trace ++ [.sndRegWrite off (d.extractLsb' 0 8)] }
      ∧ exec (.wrSndData off (wordStore d)) s =
        .next { s with trace := s.trace ++ [.sndDataWrite off (d.extractLsb' 0 8)] }
      ∧ exec (.wrSndReg off (evenByteStore b)) s = .next s ∧ exec (.wrSndReg off (oddByteStore b)) s = .next s
      ∧ exec (.wrSndData off (evenByteStore b)) s = .next s ∧ exec (.wrSndData off (oddByteStore b)) s = .next s

/-- 42_eeprom.md R88, R90 (b), (c): the core and the latches change only through the two control writes, EV.NVLOAD and
EV.RESET, and with them the output bit. -/
def Obligations.EepromChangesOnlyThroughItsSignals : Prop :=
  ∀ (i : Instr) (s t : State), drivesEeprom i = false → exec i s = .next t →
    t.eeCore = s.eeCore ∧ t.eeDi = s.eeDi ∧ t.eeCs = s.eeCs ∧ t.eeClk = s.eeClk ∧ eeDo t = eeDo s

/-- 42_eeprom.md R91 with the reference core (log 9): control writes that all carry the clock level already there make no
edge: nothing is shifted, sent, locked or stored, though a command being entered may be dropped. -/
def Obligations.NoEdgeWithoutAClockChange : Prop :=
  ∀ (s t : State) (ws : List (Layout × Word32)), s.cfg.eecore = .eeref →
    (∀ p ∈ ws, eeClkBit p.1 p.2 = s.eeClk) →
    runOps (ws.map fun p => match p.1 with
      | .std => .wrEeStd 0 p.2
      | .guw => .wrEeGuw 0 p.2) s = .next t →
    t.eeClk = s.eeClk ∧ t.eeCore.nv = s.eeCore.nv ∧ t.eeCore.ref.dout = s.eeCore.ref.dout
      ∧ t.eeCore.ref.locked = s.eeCore.ref.locked
      ∧ (t.eeCore.ref.sr = s.eeCore.ref.sr ∨ t.eeCore.ref.sr = [])

/-- 42_eeprom.md R97 (the reference core, log 9): every effective control write whose `EE_CS_N` bit is 0, of either layout, drops
the command being entered and ends a read, whatever its other bits are, and keeps the array and the lock. -/
def Obligations.EerefChipSelectResetsTheInterface : Prop :=
  ∀ (s : State) (off : Addr) (w : Word32), s.cfg.eecore = .eeref →
    (w.extractLsb' 24 8 = 0 → w.getLsbD 9 = false → ∃ t, exec (.wrEeStd off w) s = .next t ∧ InterfaceReset s t)
      ∧ (w.extractLsb' 16 8 = 0 → w.getLsbD 5 = false → ∃ t, exec (.wrEeGuw off w) s = .next t ∧ InterfaceReset s t)

/-- 42_eeprom.md R99, R100 (the reference core, log 9): clocking in WRITE `a`, `d` stores `d` at word `a` if writes are
enabled and nothing otherwise; every other word keeps its value; the core waits for the next start bit; and nothing of the
block outside the EEPROM changes. -/
def Obligations.EerefWriteStoresTheWord : Prop :=
  ∀ (s : State) (l : Layout) (a : BitVec 6) (d : Word), EerefIdle s →
    ∃ t, runOps (clockIn l (writeCommand a d)) s = .next t ∧ EerefIdle t
      ∧ t = { s with eeDi := t.eeDi, eeCs := false, eeClk := true, eeCore := t.eeCore }
      ∧ (s.eeCore.ref.locked = true → t.eeCore.nv = s.eeCore.nv)
      ∧ (s.eeCore.ref.locked = false →
        eerefWord t.eeCore.nv a.toNat = d
          ∧ ∀ b : BitVec 6, b ≠ a → eerefWord t.eeCore.nv b.toNat = eerefWord s.eeCore.nv b.toNat)
      ∧ t.eeCore.ref.locked = s.eeCore.ref.locked

/-- 42_eeprom.md R99, R100 (the reference core, log 9): ERASE `a` stores `0xFFFF` at word `a` if writes are enabled; write
enable and write disable set the lock and touch no word; write-all and erase-all have no effect but that the command is over;
and none of them changes anything outside the EEPROM. -/
def Obligations.EerefEraseLockAndAllCommands : Prop :=
  ∀ (s : State) (l : Layout) (a : BitVec 6) (x : BitVec 4) (b : Bool), EerefIdle s →
    (∃ t, runOps (clockIn l (eraseCommand a)) s = .next t ∧ EerefIdle t ∧ OnlyEepromChanged s t
      ∧ (s.eeCore.ref.locked = true → t.eeCore.nv = s.eeCore.nv)
      ∧ (s.eeCore.ref.locked = false →
        eerefWord t.eeCore.nv a.toNat = 0xFFFF
          ∧ ∀ a' : BitVec 6, a' ≠ a → eerefWord t.eeCore.nv a'.toNat = eerefWord s.eeCore.nv a'.toNat)
      ∧ t.eeCore.ref.locked = s.eeCore.ref.locked)
    ∧ (∃ t, runOps (clockIn l (enableCommand x)) s = .next t ∧ EerefIdle t ∧ OnlyEepromChanged s t
      ∧ t.eeCore.ref.locked = false ∧ t.eeCore.nv = s.eeCore.nv)
    ∧ (∃ t, runOps (clockIn l (disableCommand x)) s = .next t ∧ EerefIdle t ∧ OnlyEepromChanged s t
      ∧ t.eeCore.ref.locked = true ∧ t.eeCore.nv = s.eeCore.nv)
    ∧ ∃ t, runOps (clockIn l (allCommand b x)) s = .next t ∧ EerefIdle t ∧ OnlyEepromChanged s t
      ∧ t.eeCore.ref.locked = s.eeCore.ref.locked ∧ t.eeCore.ref.dout = s.eeCore.ref.dout ∧ t.eeCore.nv = s.eeCore.nv

/-- 42_eeprom.md R101 (the reference core, log 9): after READ `a` the output bit is 0; after the k-th further clock it is bit
16 - k of the word for k from 1 to 16, and 1 from the 17th on, whatever data bits are clocked in; the array is kept. -/
def Obligations.EerefReadShiftsOutTheWord : Prop :=
  ∀ (s : State) (l : Layout) (a : BitVec 6) (bits : List Bool), EerefIdle s →
    ∃ t, runOps (clockIn l (readCommand a ++ bits)) s = .next t ∧ t.eeCore.nv = s.eeCore.nv
      ∧ eeDo t =
        (if bits.length = 0 then false
          else if bits.length ≤ 16 then (eerefWord s.eeCore.nv a.toNat).getLsbD (16 - bits.length) else true)

/-- 46_nvram_host.md R161 (corner case), 42_eeprom.md R98 to R100 (the reference core, log 9): but for EV.NVLOAD the array
changes only at a rising clock edge of a control write, with chip-select released, writes enabled, and an ERASE one bit short
of its 9 bits or a WRITE one bit short of its 25. -/
def Obligations.EerefArrayChangesOnlyOnTheLastClock : Prop :=
  ∀ (i : Instr) (s t : State), s.cfg.eecore = .eeref → (∀ img, i ≠ .evNvload img) → exec i s = .next t →
    t.eeCore.nv ≠ s.eeCore.nv →
    (∃ off w, i = .wrEeStd off w ∨ i = .wrEeGuw off w) ∧ s.eeClk = false ∧ t.eeClk = true ∧ t.eeCs = false
      ∧ s.eeCore.ref.locked = false
      ∧ ((s.eeCore.ref.sr.length = 8 ∧ eerefOpcode s.eeCore.ref.sr = (true, true))
        ∨ (s.eeCore.ref.sr.length = 24 ∧ eerefOpcode s.eeCore.ref.sr = (false, true)))

/-! ## The input compositor -/

/-- 43_input_compositor.md R111, R112, R113 and 30_encoding.md R58. -/
def Obligations.StandardInputReads : Prop :=
  ∀ (in1 : Addr) (u : Nat) (s : State),
    decode in1 (readTxn .inputStd u 0) = .ok .rdInStdP0
      ∧ exec .rdInStdP0 s = .next { s with rdata := some s.env.in0 }
      ∧ decode in1 (readTxn .inputStd u 2) = .ok .rdInStdP1e
      ∧ exec .rdInStdP1e s =
        .next { s with rdata := some (s.env.in1 ||| ((BitVec.ofBool (eeDo s)).setWidth 16 <<< 11)) }
      ∧ ∀ off : Addr, off ≠ 0 → off ≠ 2 →
        decode in1 (readTxn .inputStd u off) = .ok (.rdInStdZero off)
          ∧ exec (.rdInStdZero off) s = .next { s with rdata := some 0x0000 }

/-- 43_input_compositor.md R114, R115, R116 and 30_encoding.md R58, at any `IN1_OFF(GUWANGE)` that is not 0. -/
def Obligations.GuwangeInputReads : Prop :=
  ∀ (in1 : Addr) (u : Nat) (s : State), in1 ≠ 0 →
    decode in1 (readTxn .inputGuw u 0) = .ok .rdInGuwP0
      ∧ exec .rdInGuwP0 s = .next { s with rdata := some s.env.in0 }
      ∧ decode in1 (readTxn .inputGuw u in1) = .ok .rdInGuwP1e
      ∧ exec .rdInGuwP1e s =
        .next { s with rdata := some (s.env.in1 ||| ((BitVec.ofBool (eeDo s)).setWidth 16 <<< 7)) }
      ∧ ∀ off : Addr, off ≠ 0 → off ≠ in1 →
        decode in1 (readTxn .inputGuw u off) = .ok (.rdInGuwZero off)
          ∧ exec (.rdInGuwZero off) s = .next { s with rdata := some 0x0000 }

/-! ## Storage -/

/-- 20_memory.md R36 (the spec's decision D2): the model's byte-by-byte merge is the rule's per-bit merge and its formula. -/
def Obligations.MergeIsPerBit : Prop :=
  ∀ (old : Word) (w : Word32),
    mux16 old w = mergeWord old w
      ∧ ∀ i, i < 16 → (mux16 old w).getLsbD i = if w.getLsbD (16 + i) then old.getLsbD i else w.getLsbD i

/-- 45_storage_and_sound.md R135, R136: a ROM read returns the constant word and changes nothing; a ROM write does nothing,
so the read after it returns the same word. Which of the two bytes is the high one is the spec's decision D3 (log 18). -/
def Obligations.RomReadsItsConstantAndIgnoresWrites : Prop :=
  ∀ (u : Nat) (off off' : Addr) (w : Word32) (s : State),
    exec (.wrRom u off w) s = .next s
      ∧ (inUnit s.cfg (romUnit u) off' = true →
        exec (.rdRom u off') s =
          .next { s with
            rdata := some (romByte s.cfg (romUnit u) off'.toNat ++ romByte s.cfg (romUnit u) (off'.toNat + 1)) })

/-- 45_storage_and_sound.md R137, R139, R142, R146, R148, R150 with the byte order of 20_memory.md R33 (the spec's decision
D3): a plain storage read returns the two stored bytes, high byte first, and changes nothing. -/
def Obligations.StorageReadsReturnTheStoredWord : Prop :=
  ∀ (u : Nat) (off : Addr) (s : State),
    (inUnit s.cfg (ramUnit u) off = true → exec (.rdRam u off) s =
        .next { s with rdata := some (readByte s (ramUnit u) off.toNat ++ readByte s (ramUnit u) (off.toNat + 1)) })
    ∧ (inUnit s.cfg (spriteUnit u) off = true → exec (.rdSpriteram u off) s =
        .next { s with rdata := some (readByte s (spriteUnit u) off.toNat ++ readByte s (spriteUnit u) (off.toNat + 1)) })
    ∧ (inUnit s.cfg (vramUnit u) off = true → exec (.rdVram16 u off) s =
        .next { s with rdata := some (readByte s (vramUnit u) off.toNat ++ readByte s (vramUnit u) (off.toNat + 1)) })
    ∧ (inUnit s.cfg (paletteUnit u) off = true → exec (.rdPalette u off) s =
        .next { s with rdata := some (readByte s (paletteUnit u) off.toNat ++ readByte s (paletteUnit u) (off.toNat + 1)) })
    ∧ (inUnit s.cfg (videoUnit u) off = true → exec (.rdVideoregs u off) s =
        .next { s with rdata := some (readByte s (videoUnit u) off.toNat ++ readByte s (videoUnit u) (off.toNat + 1)) })
    ∧ (inUnit s.cfg (lctrlUnit u) off = true → exec (.rdLayerctrl u off) s =
        .next { s with rdata := some (readByte s (lctrlUnit u) off.toNat ++ readByte s (lctrlUnit u) (off.toNat + 1)) })

/-- 45_storage_and_sound.md R144 (the spec's decision D22): the mirrored layer is read at the masked offset. -/
def Obligations.MirroredReadsUseTheMaskedOffset : Prop :=
  ∀ (layer : Nat) (off : Addr) (s : State), inUnit s.cfg (vramUnit layer) (off &&& s.cfg.vram8Mask) = true →
    exec (.rdVram8 layer off) s =
      .next { s with
        rdata := some (readByte s (vramUnit layer) (off &&& s.cfg.vram8Mask).toNat
          ++ readByte s (vramUnit layer) ((off &&& s.cfg.vram8Mask).toNat + 1)) }

/-- 45_storage_and_sound.md R138, R140, R149, R151, whose merge is the spec's decision D2: a plain storage write changes the
two bytes at its offset to the merged word, and nothing else whatever: no other byte, no call, no flag. -/
def Obligations.PlainStorageWritesStoreTheMergedWord : Prop :=
  ∀ (u : Nat) (off : Addr) (w : Word32) (s : State),
    (inUnit s.cfg (ramUnit u) off = true →
      ∃ t, exec (.wrRam u off w) s = .next t ∧ t = { s with mem := t.mem }
        ∧ StoredOnly s t (ramUnit u) off.toNat (mergeWord (storedWord s (ramUnit u) off) w))
    ∧ (inUnit s.cfg (spriteUnit u) off = true →
      ∃ t, exec (.wrSpriteram u off w) s = .next t ∧ t = { s with mem := t.mem }
        ∧ StoredOnly s t (spriteUnit u) off.toNat (mergeWord (storedWord s (spriteUnit u) off) w))
    ∧ (inUnit s.cfg (videoUnit u) off = true →
      ∃ t, exec (.wrVideoregs u off w) s = .next t ∧ t = { s with mem := t.mem }
        ∧ StoredOnly s t (videoUnit u) off.toNat (mergeWord (storedWord s (videoUnit u) off) w))
    ∧ (inUnit s.cfg (lctrlUnit u) off = true →
      ∃ t, exec (.wrLayerctrl u off w) s = .next t ∧ t = { s with mem := t.mem }
        ∧ StoredOnly s t (lctrlUnit u) off.toNat (mergeWord (storedWord s (lctrlUnit u) off) w))

/-- 45_storage_and_sound.md R143 (merge, tile index and one notice on every write are the spec's decisions D2, D20, D21): a
linear VRAM write stores the merged word, emits exactly one dirty-tile notice, and does nothing else. -/
def Obligations.LinearVramWritesStoreAndMarkOneTile : Prop :=
  ∀ (layer : Nat) (off : Addr) (w : Word32) (s : State), inUnit s.cfg (vramUnit layer) off = true →
    ∃ t, exec (.wrVram16 layer off w) s = .next t
      ∧ t = { s with mem := t.mem, trace := s.trace ++ [.dirtyTile layer (tileIndex s.cfg layer off)] }
      ∧ (s.cfg.tileRule = .divTileBytes → tileIndex s.cfg layer off = off.toNat / s.cfg.tileBytes)
      ∧ StoredOnly s t (vramUnit layer) off.toNat (mergeWord (storedWord s (vramUnit layer) off) w)

/-- 45_storage_and_sound.md R145 (the spec's decisions D2, D20, D21): the mirrored variant stores and marks at the masked
offset. -/
def Obligations.MirroredVramWritesStoreAndMarkAtTheMaskedOffset : Prop :=
  ∀ (layer : Nat) (off : Addr) (w : Word32) (s : State),
    inUnit s.cfg (vramUnit layer) (off &&& s.cfg.vram8Mask) = true →
    ∃ t, exec (.wrVram8 layer off w) s = .next t
      ∧ t = { s with
          mem := t.mem
          trace := s.trace ++ [.dirtyTile layer (tileIndex s.cfg layer (off &&& s.cfg.vram8Mask))] }
      ∧ StoredOnly s t (vramUnit layer) (off &&& s.cfg.vram8Mask).toNat
        (mergeWord (storedWord s (vramUnit layer) (off &&& s.cfg.vram8Mask)) w)

/-- 45_storage_and_sound.md R147 (the spec's decisions D2, D23): a palette write stores the merged word and forwards that
word with the byte offset, once. -/
def Obligations.PaletteWritesStoreAndForwardTheMergedWord : Prop :=
  ∀ (u : Nat) (off : Addr) (w : Word32) (s : State), inUnit s.cfg (paletteUnit u) off = true →
    ∃ t, exec (.wrPalette u off w) s = .next t
      ∧ t = { s with
          mem := t.mem
          trace := s.trace ++ [.paletteWrite off (mergeWord (storedWord s (paletteUnit u) off) w)] }
      ∧ StoredOnly s t (paletteUnit u) off.toNat (mergeWord (storedWord s (paletteUnit u) off) w)

/-- 45_storage_and_sound.md R138, corner case (the spec's decision D2): a byte store changes one byte, of a RAM unit at its
even or its odd address, and no other byte. -/
def Obligations.ByteStoresChangeOneByte : Prop :=
  ∀ (u : Nat) (off : Addr) (b : Byte) (s : State), inUnit s.cfg (ramUnit u) off = true →
    (∃ t, exec (.wrRam u off (evenByteStore b)) s = .next t ∧ readByte t (ramUnit u) off.toNat = b
      ∧ ∀ u' a, ¬(u' = ramUnit u ∧ a = off.toNat) → readByte t u' a = readByte s u' a)
    ∧ ∃ t, exec (.wrRam u off (oddByteStore b)) s = .next t ∧ readByte t (ramUnit u) (off.toNat + 1) = b
      ∧ ∀ u' a, ¬(u' = ramUnit u ∧ a = off.toNat + 1) → readByte t u' a = readByte s u' a

/-- 70_reset_and_hazards.md R204, 45_storage_and_sound.md R144, R145: in the mirrored layer the offset `o + VRAM8_MASK + 1`
is the same storage and the same tile as `o`, for reads and for writes. -/
def Obligations.MirrorsAreTheSameStorage : Prop :=
  ∀ (s : State) (layer : Nat) (o : Addr) (w : Word32), maskOk s.cfg.vram8Mask = true →
    exec (.rdVram8 layer (o + s.cfg.vram8Mask + 1)) s = exec (.rdVram8 layer o) s
      ∧ exec (.wrVram8 layer (o + s.cfg.vram8Mask + 1) w) s = exec (.wrVram8 layer o w) s

/-- 10_state.md R16: storage is written only by the storage writes (and drawn anew by EV.RESET). -/
def Obligations.StorageChangesOnlyByStorageWrites : Prop :=
  ∀ (i : Instr) (s t : State), storesToUnit i = false → i ≠ .evReset → exec i s = .next t → StorageKept s t

/-- 20_memory.md R40 (a), 45_storage_and_sound.md R155: through the tables, a word store followed by a read at an address
that reaches the same place returns the word stored, in every well-formed configuration, for every writable storage kind
and, in the mirrored layer, through every mirror. -/
def Obligations.BusStoreThenReadReturnsTheWord : Prop :=
  ∀ (s : State) (wa ra : Addr) (d : Word) (e₁ e₂ : Env) (rest : List Presented) (u : UnitId) (o : Addr),
    configOk s.cfg = true → s.pending = ⟨listWrw wa d, e₁⟩ :: ⟨listRd ra, e₂⟩ :: rest →
    wa.getLsbD 0 = false → ra.getLsbD 0 = false →
    storagePlace s.cfg (lookup s.cfg.wtab wa) = some (u, o) → u.kind ≠ .rom →
    storagePlace s.cfg (lookup s.cfg.rtab ra) = some (u, o) →
    ∃ t, Sys2Proof.core.run 2 s = .next t ∧ t.rdata = some d ∧ t.pending = rest

/-- The model's own stop (log 12): a storage operation whose word is not inside a unit is refused, and no other storage
operation is; 45_storage_and_sound.md R155 says well-formed configurations never reach it. -/
def Obligations.StorageOutsideTheUnitIsRefused : Prop :=
  ∀ (u : Nat) (off : Addr) (w : Word32) (s : State),
    (inUnit s.cfg (romUnit u) off = false → exec (.rdRom u off) s = .refused .outsideUnit)
    ∧ (inUnit s.cfg (ramUnit u) off = false →
      exec (.rdRam u off) s = .refused .outsideUnit ∧ exec (.wrRam u off w) s = .refused .outsideUnit)
    ∧ (inUnit s.cfg (spriteUnit u) off = false →
      exec (.rdSpriteram u off) s = .refused .outsideUnit ∧ exec (.wrSpriteram u off w) s = .refused .outsideUnit)
    ∧ (inUnit s.cfg (vramUnit u) off = false →
      exec (.rdVram16 u off) s = .refused .outsideUnit ∧ exec (.wrVram16 u off w) s = .refused .outsideUnit)
    ∧ (inUnit s.cfg (vramUnit u) (off &&& s.cfg.vram8Mask) = false →
      exec (.rdVram8 u off) s = .refused .outsideUnit ∧ exec (.wrVram8 u off w) s = .refused .outsideUnit)
    ∧ (inUnit s.cfg (paletteUnit u) off = false →
      exec (.rdPalette u off) s = .refused .outsideUnit ∧ exec (.wrPalette u off w) s = .refused .outsideUnit)
    ∧ (inUnit s.cfg (videoUnit u) off = false →
      exec (.rdVideoregs u off) s = .refused .outsideUnit ∧ exec (.wrVideoregs u off w) s = .refused .outsideUnit)
    ∧ (inUnit s.cfg (lctrlUnit u) off = false →
      exec (.rdLayerctrl u off) s = .refused .outsideUnit ∧ exec (.wrLayerctrl u off w) s = .refused .outsideUnit)

/-! ## Sound ports and unmapped accesses -/

/-- 45_storage_and_sound.md R152, R153, R154 (ports, byte and zero extension are the spec's decision D19): which word selects
which port, what a write with an all-zero lane qualifier emits, what any other write does (nothing), and what a read
returns. -/
def Obligations.SoundPortsForwardOneByte : Prop :=
  ∀ (in1 : Addr) (u : Nat) (off : Addr) (w : Word32) (s : State),
    decode in1 (writeTxn .sound u off w) = .ok (if off.getLsbD 1 then .wrSndData off w else .wrSndReg off w)
      ∧ decode in1 (readTxn .sound u off) = .ok (.rdSndStatus off)
      ∧ exec (.wrSndReg off w) s =
        .next (if w.extractLsb' 16 16 = 0 then { s with trace := s.trace ++ [.sndRegWrite off (w.extractLsb' 0 8)] } else s)
      ∧ exec (.wrSndData off w) s =
        .next (if w.extractLsb' 16 16 = 0 then { s with trace := s.trace ++ [.sndDataWrite off (w.extractLsb' 0 8)] } else s)
      ∧ exec (.rdSndStatus off) s = .next { s with rdata := some (s.env.sndStatus.setWidth 16) }

/-- 44_dispatcher.md R124: a write that no entry of the write table contains is `WR.UNMAPPED`, and that does nothing. -/
def Obligations.UnmappedWritesDoNothing : Prop :=
  ∀ (c : Config) (addr : Addr) (w : Word32) (s : State),
    ((∀ x ∈ c.wtab, ¬(x.start ≤ addr.toNat ∧ addr.toNat ≤ x.stop)) →
        decode c.guwIn1Off (busWrite c addr w) = .ok (.wrUnmapped addr w))
      ∧ exec (.wrUnmapped addr w) s = .next s

/-- 44_dispatcher.md R123 (a draw: the spec's decision D7; the free value and its counter are the model's, log 5), 30_encoding.md
R61 (b): an unmapped read returns the next draw and changes nothing else, the reserved forms act as the unmapped ones, and
two reads in a row take two draws. -/
def Obligations.UnmappedReadsReturnADraw : Prop :=
  ∀ (addr : Addr) (bits : BitVec 30) (w : Word32) (s : State),
    exec (.rdUnmapped addr) s = .next { s with rdata := some (Config.drawWord s.draws), draws := s.draws + 1 }
      ∧ exec (.rdRsvd bits) s = .next { s with rdata := some (Config.drawWord s.draws), draws := s.draws + 1 }
      ∧ exec (.wrRsvd bits w) s = .next s
      ∧ runOps [.rdUnmapped addr, .rdUnmapped addr] s =
        .next { s with rdata := some (Config.drawWord (s.draws + 1)), draws := s.draws + 2 }

/-! ## Reset, NVRAM and the renderer -/

/-- 70_reset_and_hazards.md R190, R191 (the values are the spec's decisions D11, D12, D15, D26, D35): what EV.RESET leaves:
flags and line down, the latches at 0, 1, 0, the core initialised around the array it keeps, every storage byte a draw of
this reset (log 6), the configuration, the trace and the environment's values as they were. -/
def Obligations.ResetLeavesTheNamedState : Prop :=
  ∀ s : State, ∃ t, exec .evReset s = .next t
    ∧ t = { s with
        vblankPending := false
        soundPending := false
        unknownPending := false
        irqLine := false
        eeDi := false
        eeCs := true
        eeClk := false
        eeCore := coreInit s.cfg.eecore s.eeCore.nv
        mem := t.mem
        epoch := t.epoch }
    ∧ t.eeCore.nv = s.eeCore.nv
    ∧ (s.cfg.eecore = .eeref → eeDo t = true)
    ∧ ∀ u a, readByte t u a = Config.drawByte (s.epoch + 1) (byteAddr u a)

/-- 46_nvram_host.md R160 (the spec's decisions D26, D27): a load with an image makes it the array; one without emits the
diagnostic and zeroes the array; both restart the EEPROM and touch nothing else; an image of the wrong length is refused. -/
def Obligations.NvloadReplacesTheArray : Prop :=
  ∀ s : State,
    (s.env.image.length = s.cfg.nvBytes →
      exec (.evNvload true) s =
        .next { s with eeDi := false, eeCs := true, eeClk := false, eeCore := coreInit s.cfg.eecore s.env.image })
    ∧ (s.env.image.length ≠ s.cfg.nvBytes → exec (.evNvload true) s = .refused .imageLength)
    ∧ exec (.evNvload false) s =
      .next { s with
        eeDi := false
        eeCs := true
        eeClk := false
        eeCore := coreInit s.cfg.eecore (List.replicate s.cfg.nvBytes 0x00)
        trace := s.trace ++ [.diagNvramInit] }
    ∧ ∀ b, (coreInit s.cfg.eecore b).nv = b

/-- 46_nvram_host.md R161. -/
def Obligations.NvsaveEmitsTheArray : Prop :=
  ∀ s : State, exec .evNvsave s = .next { s with trace := s.trace ++ [.nvSaveImage s.eeCore.nv] }

/-- 46_nvram_host.md R162 (the format is the spec's decision D27): what one life of the block saves, another life of it loads,
whatever core and whatever state that life is in. -/
def Obligations.SaveThenLoadRestoresTheArray : Prop :=
  ∀ (s s' t : State) (image : List Byte), ArrayWhole s → s'.cfg.nvBytes = s.cfg.nvBytes →
    exec .evNvsave s = .next t → t.trace = s.trace ++ [.nvSaveImage image] → s'.env.image = image →
    ∃ t', exec (.evNvload true) s' = .next t' ∧ t'.eeCore.nv = s.eeCore.nv

/-- 46_nvram_host.md R165: the renderer is handed every byte of every sprite RAM, VRAM, palette, video register and layer
control unit, whole and in the units' order, and of no other unit; nothing of the block changes and nothing is emitted. -/
def Obligations.RenderHandsOverEveryVideoByte : Prop :=
  ∀ s : State, ∃ v, exec .evRender s = .next { s with view := some v }
    ∧ v.map (·.id) = (s.cfg.units.filter fun d =>
        d.id.kind != .rom && d.id.kind != .ram).map (·.id)
    ∧ ∀ x ∈ v, ∃ d ∈ s.cfg.units, x.id = d.id ∧ x.bytes.length = d.size
        ∧ ∀ a, a < d.size → x.bytes[a]? = some (readByte s d.id a)

/-! ## The invariant -/

/-- The block's invariant holds at reset in every configuration, the example one among them (41_irq_cause.md R80; 42_eeprom.md
R94, R95; the reset values are the spec's decisions D11, D12, D15 and the configuration the model's choice, log 4). -/
def Obligations.InvariantHoldsAtReset : Prop := (∀ c : Config, Inv (State.resetIn c)) ∧ Inv State.reset

/-- Every step keeps the block's invariant: storage in canonical form, the line the OR of the flags (41_irq_cause.md R80), the
third source tied off in the ALT variant (R72), the array whole (10_state.md R15), and in the reference core the level
copies true and no complete command left standing (42_eeprom.md R94, R99, R100). -/
def Obligations.EveryStepKeepsTheInvariant : Prop :=
  ∀ s t : State, Inv s → step s = .next t → Inv t
end

