-- ==== Sys2Proof/Laws/Decode.lean ====
section
/-! SUPPORT. Laws/Decode.lean: the fields of a T-format word, the region codes, and what the decoder makes of the words the
dispatcher forms. -/

namespace Sys2Proof

theorem getLsbD_mkT (k : BitVec 2) (c : BitVec 4) (z : BitVec 2) (o : Addr) (i : Nat) :
    (mkT k c z o).getLsbD i =
      if i < 24 then o.getLsbD i
      else if i < 26 then z.getLsbD (i - 24) else if i < 30 then c.getLsbD (i - 26) else k.getLsbD (i - 30) := by
  unfold mkT
  simp only [BitVec.getLsbD_append]
  by_cases h1 : i < 24
  · simp [h1]
  · by_cases h2 : i < 26
    · have : i - 24 < 2 := by omega
      simp [h1, h2, this]
    · by_cases h3 : i < 30
      · have h4 : ¬(i - 24 < 2) := by omega
        have h5 : i - 24 - 2 < 4 := by omega
        have h6 : i - 24 - 2 = i - 26 := by omega
        simp [h1, h2, h3, h4, h6]
        omega
      · have h4 : ¬(i - 24 < 2) := by omega
        have h5 : ¬(i - 24 - 2 < 4) := by omega
        have h6 : i - 24 - 2 - 4 = i - 30 := by omega
        have h7 : ¬(i - 24 - 2 = 0) := by omega
        simp [h1, h2, h3, h4, h5, h6]

@[simp] theorem tKind_mkT (k : BitVec 2) (c : BitVec 4) (z : BitVec 2) (o : Addr) : tKind (mkT k c z o) = k := by
  apply BitVec.eq_of_getLsbD_eq
  intro i hi
  have h1 : ¬(30 + i < 24) := by omega
  have h2 : ¬(30 + i < 26) := by omega
  simp [tKind, getLsbD_mkT, hi, h1, h2]

@[simp] theorem tCode_mkT (k : BitVec 2) (c : BitVec 4) (z : BitVec 2) (o : Addr) : tCode (mkT k c z o) = c := by
  apply BitVec.eq_of_getLsbD_eq
  intro i hi
  have h1 : ¬(26 + i < 24) := by omega
  have h2 : 26 + i < 30 := by omega
  simp [tCode, getLsbD_mkT, hi, h1, h2]

@[simp] theorem tZero_mkT (k : BitVec 2) (c : BitVec 4) (z : BitVec 2) (o : Addr) : tZero (mkT k c z o) = z := by
  apply BitVec.eq_of_getLsbD_eq
  intro i hi
  have h1 : 24 + i < 26 := by omega
  simp [tZero, getLsbD_mkT, hi, h1]

@[simp] theorem tOff_mkT (k : BitVec 2) (c : BitVec 4) (z : BitVec 2) (o : Addr) : tOff (mkT k c z o) = o := by
  apply BitVec.eq_of_getLsbD_eq
  intro i hi
  simp [tOff, getLsbD_mkT, hi]

/-- A T-format word is its four fields. -/
theorem mkT_fields (t : Word32) : mkT (tKind t) (tCode t) (tZero t) (tOff t) = t := by
  apply BitVec.eq_of_getLsbD_eq
  intro i hi
  simp only [getLsbD_mkT, tKind, tCode, tZero, tOff, BitVec.getLsbD_extractLsb']
  by_cases h1 : i < 24
  · simp [h1]
  · by_cases h2 : i < 26
    · have h3 : i - 24 < 2 := by omega
      have h4 : 24 + (i - 24) = i := by omega
      simp [h1, h2, h3, h4]
    · by_cases h3 : i < 30
      · have h4 : i - 26 < 4 := by omega
        have h5 : 26 + (i - 26) = i := by omega
        simp [h1, h2, h3, h4, h5]
      · have h4 : i - 30 < 2 := by omega
        have h5 : 30 + (i - 30) = i := by omega
        simp [h1, h2, h3, h4, h5]

theorem getLsbD_kindBits (k : BitVec 2) (bits : BitVec 30) (i : Nat) :
    (k ++ bits : BitVec 32).getLsbD i = if i < 30 then bits.getLsbD i else k.getLsbD (i - 30) := by
  rw [BitVec.getLsbD_append]

/-- A kind joined to the other thirty bits, as four fields. -/
theorem kindBits_eq_mkT (k : BitVec 2) (bits : BitVec 30) :
    (k ++ bits : BitVec 32) = mkT k (bits.extractLsb' 26 4) (bits.extractLsb' 24 2) (bits.extractLsb' 0 24) := by
  apply BitVec.eq_of_getLsbD_eq
  intro i hi
  rw [getLsbD_mkT, getLsbD_kindBits]
  simp only [BitVec.getLsbD_extractLsb']
  by_cases h1 : i < 24
  · have h2 : i < 30 := by omega
    simp [h1, h2]
  · by_cases h2 : i < 26
    · have h3 : i - 24 < 2 := by omega
      have h4 : 24 + (i - 24) = i := by omega
      have h5 : i < 30 := by omega
      simp [h1, h2, h3, h4, h5]
    · by_cases h3 : i < 30
      · have h4 : i - 26 < 4 := by omega
        have h5 : 26 + (i - 26) = i := by omega
        simp [h1, h2, h3, h4, h5]
      · simp [h1, h2, h3]

/-- The thirty bits below the kind come back. -/
theorem extract_kindBits (k : BitVec 2) (bits : BitVec 30) : (k ++ bits : BitVec 32).extractLsb' 0 30 = bits := by
  apply BitVec.eq_of_getLsbD_eq
  intro i hi
  simp only [BitVec.getLsbD_extractLsb', getLsbD_kindBits]
  simp [hi]

/-- A word is its kind joined to its other thirty bits. -/
theorem kindBits_extract (t : Word32) : (tKind t ++ t.extractLsb' 0 30 : BitVec 32) = t := by
  apply BitVec.eq_of_getLsbD_eq
  intro i hi
  rw [getLsbD_kindBits]
  simp only [tKind, BitVec.getLsbD_extractLsb']
  by_cases h : i < 30
  · simp [h]
  · have h4 : i - 30 < 2 := by omega
    have h5 : 30 + (i - 30) = i := by omega
    simp [h, h4, h5]

@[simp] theorem regionOfCode_code (k : RegionKind) : regionOfCode k.code = k := by cases k <;> rfl

theorem code_regionOfCode (c : BitVec 4) : (regionOfCode c).code = c := by
  revert c
  decide

/-- What the decoder makes of a read the dispatcher forms. -/
theorem decode_readTxn (in1 : Addr) (k : RegionKind) (u : Nat) (off : Addr) :
    decode in1 (readTxn k u off) = .ok (decodeRead in1 (readTxn k u off)) := by simp [decode, readTxn]

/-- What the decoder makes of a write the dispatcher forms. -/
theorem decode_writeTxn (in1 : Addr) (k : RegionKind) (u : Nat) (off : Addr) (w : Word32) :
    decode in1 (writeTxn k u off w) = .ok (decodeWrite (writeTxn k u off w)) := by simp [decode, writeTxn]

end Sys2Proof
end

