-- ==== Sys2Proof/Laws/EepromCore.lean ====
section
/-! SUPPORT. Laws/EepromCore.lean: what the setters of a core keep, and the reference core's words (42_eeprom.md R89 to
R100). -/

namespace Sys2Proof.Machine

open Sys2Proof

@[simp] theorem coreInit_nv (k : CoreKind) (b : List Byte) : (coreInit k b).nv = b := by cases k <;> rfl

@[simp] theorem eerefSetWord_length (nv : List Byte) (a : Nat) (v : Word) : (eerefSetWord nv a v).length = nv.length := by
  simp [eerefSetWord]

/-- Storing a word makes it the word there. -/
theorem eerefWord_setWord_self (nv : List Byte) {a : Nat} (v : Word) (h : 2 * a + 1 < nv.length) :
    eerefWord (eerefSetWord nv a v) a = v := by
  have h0 : 2 * a < nv.length := by omega
  have h1 : (eerefSetWord nv a v).getD (2 * a) 0 = v.extractLsb' 8 8 := by
    simp [eerefSetWord, h0]
  have h2 : (eerefSetWord nv a v).getD (2 * a + 1) 0 = v.extractLsb' 0 8 := by
    simp [eerefSetWord, h]
  rw [eerefWord, h1, h2]
  apply BitVec.eq_of_getLsbD_eq
  intro i hi
  rw [BitVec.getLsbD_append]
  by_cases h3 : i < 8
  · simp [h3]
  · have h4 : i - 8 < 8 := by omega
    have h5 : 8 + (i - 8) = i := by omega
    simp [h3, h4, h5]

/-- Storing a word leaves every other word alone. -/
theorem eerefWord_setWord_other (nv : List Byte) {a b : Nat} (v : Word) (h : b ≠ a) :
    eerefWord (eerefSetWord nv a v) b = eerefWord nv b := by
  have h1 : 2 * a ≠ 2 * b := by omega
  have h2 : 2 * a + 1 ≠ 2 * b := by omega
  have h3 : 2 * a ≠ 2 * b + 1 := by omega
  simp [eerefWord, eerefSetWord, h1, h2, h3]

/-- `Match` leaves the array alone unless writes are enabled and an ERASE or a WRITE is complete. -/
theorem eerefMatch_nv (nv : List Byte) (r : EeRef) :
    (eerefMatch nv r).1 = nv
      ∨ (r.locked = false ∧ (r.sr.length = 9 ∧ eerefOpcode r.sr = (true, true)
            ∨ r.sr.length = 25 ∧ eerefOpcode r.sr = (false, true))
          ∧ ∃ a v, (eerefMatch nv r).1 = eerefSetWord nv a v) := by
  unfold eerefMatch
  dsimp only
  split
  · next h9 =>
    split
    · exact .inl rfl
    · next ho =>
      cases hl : r.locked with
      | true => exact .inl (by simp)
      | false => exact .inr ⟨rfl, .inl ⟨h9, ho⟩, _, _, by simp; rfl⟩
    · split <;> exact .inl rfl
    · exact .inl rfl
  · split
    · next h25 =>
      cases hl : r.locked with
      | true => exact .inl (by simp)
      | false => exact .inr ⟨rfl, .inr h25, _, _, by simp; rfl⟩
    · exact .inl rfl

theorem eerefMatch_length (nv : List Byte) (r : EeRef) : (eerefMatch nv r).1.length = nv.length := by
  rcases eerefMatch_nv nv r with h | ⟨_, _, a, v, h⟩ <;> simp [h]

/-- `Match` keeps the three level copies. -/
theorem eerefMatch_levels (nv : List Byte) (r : EeRef) :
    (eerefMatch nv r).2.di = r.di ∧ (eerefMatch nv r).2.cs = r.cs ∧ (eerefMatch nv r).2.clk = r.clk := by
  unfold eerefMatch
  dsimp only
  split
  · split
    · exact ⟨rfl, rfl, rfl⟩
    · exact ⟨rfl, rfl, rfl⟩
    · split <;> exact ⟨rfl, rfl, rfl⟩
    · exact ⟨rfl, rfl, rfl⟩
  · split <;> exact ⟨rfl, rfl, rfl⟩

theorem eerefClockEdge_length (nv : List Byte) (r : EeRef) : (eerefClockEdge nv r).1.length = nv.length := by
  unfold eerefClockEdge
  split
  · rfl
  · split
    · rfl
    · exact eerefMatch_length _ _

theorem eerefClockEdge_levels (nv : List Byte) (r : EeRef) :
    (eerefClockEdge nv r).2.di = r.di ∧ (eerefClockEdge nv r).2.cs = r.cs ∧ (eerefClockEdge nv r).2.clk = r.clk := by
  unfold eerefClockEdge
  split
  · exact ⟨rfl, rfl, rfl⟩
  · split
    · exact ⟨rfl, rfl, rfl⟩
    · exact eerefMatch_levels _ _

theorem eerefSetclk_levels (nv : List Byte) (r : EeRef) (old new : Bool) :
    (eerefSetclk nv r old new).2.di = r.di ∧ (eerefSetclk nv r old new).2.cs = r.cs
      ∧ (eerefSetclk nv r old new).2.clk = new := by
  unfold eerefSetclk
  dsimp only
  split
  · exact eerefClockEdge_levels _ _
  · exact ⟨rfl, rfl, rfl⟩

/-- No call changes the size of the array (42_eeprom.md R89: `nv : S -> Bytes(NV_BYTES)`). -/
@[simp] theorem coreWrbit_length (k : CoreKind) (c : EeCore) (b : Bool) : (coreWrbit k c b).nv.length = c.nv.length := by
  cases k <;> simp [coreWrbit, otherCall]

@[simp] theorem coreSetcs_length (k : CoreKind) (c : EeCore) (b : Bool) : (coreSetcs k c b).nv.length = c.nv.length := by
  cases k <;> simp [coreSetcs, otherCall]

@[simp] theorem coreSetclk_length (k : CoreKind) (c : EeCore) (old new : Bool) :
    (coreSetclk k c old new).nv.length = c.nv.length := by
  cases k with
  | eeref =>
    change (eerefSetclk c.nv c.ref old new).1.length = _
    unfold eerefSetclk
    dsimp only
    split
    · exact eerefClockEdge_length _ _
    · rfl
  | other id => simp [coreSetclk, otherCall]

end Sys2Proof.Machine
end

