-- ==== Sys2Proof/Laws/Operands.lean ====
section
/-! SUPPORT. Laws/Operands.lean: the fields of the three write words a CPU with two byte strobes presents (20_memory.md R32). -/

namespace Sys2Proof.Machine

open Sys2Proof

theorem getLsbD_wordStore (d : Word) (i : Nat) : (wordStore d).getLsbD i = (decide (i < 16) && d.getLsbD i) := by
  unfold wordStore
  rw [BitVec.getLsbD_append]
  by_cases h : i < 16 <;> simp [h]

theorem getLsbD_evenByteStore (b : Byte) (i : Nat) :
    (evenByteStore b).getLsbD i = if i < 8 then false else if i < 16 then b.getLsbD (i - 8) else (0x00FF : Word).getLsbD (i - 16) := by
  unfold evenByteStore
  rw [BitVec.getLsbD_append]
  by_cases h : i < 8
  · simp [h]
  · rw [BitVec.getLsbD_append]
    by_cases h2 : i < 16
    · have h3 : i - 8 < 8 := by omega
      simp [h, h2, h3]
    · have h3 : ¬i - 8 < 8 := by omega
      have h4 : i - 8 - 8 = i - 16 := by omega
      simp [h, h2, h3, h4]

theorem getLsbD_oddByteStore (b : Byte) (i : Nat) :
    (oddByteStore b).getLsbD i = if i < 8 then b.getLsbD i else if i < 16 then false else (0xFF00 : Word).getLsbD (i - 16) := by
  unfold oddByteStore
  rw [BitVec.getLsbD_append]
  by_cases h : i < 8
  · simp [h]
  · rw [BitVec.getLsbD_append]
    by_cases h2 : i < 16
    · have h3 : i - 8 < 8 := by omega
      simp [h, h2, h3]
    · have h3 : ¬i - 8 < 8 := by omega
      have h4 : i - 8 - 8 = i - 16 := by omega
      simp [h, h2, h3, h4]

/-- A word store writes both bytes. -/
theorem wLaneHi_wordStore (d : Word) : wLaneHi (wordStore d) = 0 := by
  apply BitVec.eq_of_getLsbD_eq
  intro i hi
  have h : ¬24 + i < 16 := by omega
  simp [wLaneHi, getLsbD_wordStore, h]

theorem wLaneLo_wordStore (d : Word) : wLaneLo (wordStore d) = 0 := by
  apply BitVec.eq_of_getLsbD_eq
  intro i hi
  simp [wLaneLo, getLsbD_wordStore]

theorem wLane_wordStore (d : Word) : wLane (wordStore d) = 0 := by
  apply BitVec.eq_of_getLsbD_eq
  intro i hi
  simp [wLane, getLsbD_wordStore]

theorem wData_wordStore (d : Word) : wData (wordStore d) = d := by
  apply BitVec.eq_of_getLsbD_eq
  intro i hi
  simp [wData, getLsbD_wordStore, hi]

theorem wLowByte_wordStore (d : Word) : wLowByte (wordStore d) = d.extractLsb' 0 8 := by
  apply BitVec.eq_of_getLsbD_eq
  intro i hi
  have h : i < 16 := by omega
  simp [wLowByte, getLsbD_wordStore, h]

/-- A byte store to the even address writes the high byte and keeps the low one. -/
theorem evenByteStore_fields (b : Byte) :
    wLaneHi (evenByteStore b) = 0 ∧ wLaneLo (evenByteStore b) = 0xFF ∧ wLane (evenByteStore b) = 0x00FF
      ∧ (evenByteStore b).extractLsb' 8 8 = b := by
  refine ⟨?_, ?_, ?_, ?_⟩ <;> (revert b; decide)

/-- A byte store to the odd address keeps the high byte and writes the low one. -/
theorem oddByteStore_fields (b : Byte) :
    wLaneHi (oddByteStore b) = 0xFF ∧ wLaneLo (oddByteStore b) = 0 ∧ wLane (oddByteStore b) = 0xFF00
      ∧ wLowByte (oddByteStore b) = b := by
  refine ⟨?_, ?_, ?_, ?_⟩ <;> (revert b; decide)

end Sys2Proof.Machine
end

