-- ==== Sys2Proof/Laws/Memory.lean ====
section
/-! SUPPORT. Laws/Memory.lean: read after write, writes leave other addresses alone, every write keeps the canonical form,
and different bytes of the units have different addresses. -/

namespace Sys2Proof.Machine

open Sys2Proof

theorem memFind_memStore_self (m : Memory) (a : Nat) (b : Byte) : memFind (memStore m a b) a = some b := by
  induction m with
  | nil => simp [memStore, memFind]
  | cons e rest ih =>
    obtain ⟨k, v⟩ := e
    unfold memStore
    by_cases h1 : a < k
    · simp [h1, memFind]
    · by_cases h2 : a = k
      · simp [h2, memFind]
      · have h3 : ¬k = a := fun h => h2 h.symm
        simp [h1, h2, memFind, h3, ih]

theorem memFind_memStore_other (m : Memory) {a a' : Nat} (b : Byte) (h : a' ≠ a) :
    memFind (memStore m a b) a' = memFind m a' := by
  induction m with
  | nil => simp [memStore, memFind, h.symm]
  | cons e rest ih =>
    obtain ⟨k, v⟩ := e
    unfold memStore
    by_cases h1 : a < k
    · simp [h1, memFind, h.symm]
    · by_cases h2 : a = k
      · subst h2
        simp [memFind, h.symm]
      · simp [h1, h2, memFind, ih]

/-- Storing at an address above `k` keeps the addresses rising after `k`. -/
theorem memStore_wf_above (m : Memory) (k a : Nat) (v b : Byte) (hk : k < a) (h : Memory.wf ((k, v) :: m) = true) :
    Memory.wf ((k, v) :: memStore m a b) = true := by
  induction m generalizing k v with
  | nil => simpa [memStore, Memory.wf] using hk
  | cons e rest ih =>
    obtain ⟨l, w⟩ := e
    simp only [Memory.wf, Bool.and_eq_true, Nat.blt_eq] at h
    obtain ⟨hkl, hrest⟩ := h
    unfold memStore
    by_cases h1 : a < l
    · simp [h1, Memory.wf, hk, hrest]
    · by_cases h2 : a = l
      · subst h2
        cases rest with
        | nil => simp [Memory.wf, hk]
        | cons f fs =>
          obtain ⟨n, x⟩ := f
          simp only [Memory.wf, Bool.and_eq_true, Nat.blt_eq] at hrest
          simp [Memory.wf, hk, hrest]
      · have h3 : l < a := by omega
        simp [h1, h2, Memory.wf, hkl, ih l w h3 hrest]

/-- Every write keeps the canonical form. -/
theorem memStore_wf (m : Memory) (a : Nat) (b : Byte) (h : Memory.wf m = true) : Memory.wf (memStore m a b) = true := by
  cases m with
  | nil => simp [memStore, Memory.wf]
  | cons e rest =>
    obtain ⟨k, v⟩ := e
    unfold memStore
    by_cases h1 : a < k
    · simp [h1, Memory.wf, h]
    · by_cases h2 : a = k
      · subst h2
        cases rest with
        | nil => simp [Memory.wf]
        | cons f fs =>
          obtain ⟨n, x⟩ := f
          simp only [Memory.wf, Bool.and_eq_true, Nat.blt_eq] at h
          simp [Memory.wf, h]
      · have h3 : k < a := by omega
        simpa [h1, h2] using memStore_wf_above rest k a v b h3 h

theorem unitKindIx_lt (k : UnitKind) : unitKindIx k < 7 := by cases k <;> decide

theorem unitKindIx_inj {k l : UnitKind} (h : unitKindIx k = unitKindIx l) : k = l := by
  cases k <;> cases l <;> first | rfl | (exact absurd h (by decide))

/-- Different bytes have different addresses. -/
theorem byteAddr_inj {u v : UnitId} {i j : Nat} : byteAddr u i = byteAddr v j ↔ u = v ∧ i = j := by
  constructor
  · intro h
    obtain ⟨h1, h2⟩ := Nat.pair_eq_pair.mp h
    obtain ⟨k, n⟩ := u
    obtain ⟨l, m⟩ := v
    have hk := unitKindIx_lt k
    have hl := unitKindIx_lt l
    simp only at h1
    have hn : n = m := by omega
    have hkl : k = l := unitKindIx_inj (by omega)
    simp [hn, hkl, h2]
  · rintro ⟨rfl, rfl⟩
    rfl

end Sys2Proof.Machine
end

