-- ==== Sys2Proof/Laws/State.lean ====
section
/-! SUPPORT. Laws/State.lean: each field of the state after each named update, true by rfl, so that no proof unfolds a
record update. -/

namespace Sys2Proof.Machine

@[simp] theorem State.setVblank_cfg (s : State) (b : Bool) : (s.setVblank b).cfg = s.cfg := rfl
@[simp] theorem State.setVblank_vblankPending (s : State) (b : Bool) : (s.setVblank b).vblankPending = b := rfl
@[simp] theorem State.setVblank_soundPending (s : State) (b : Bool) : (s.setVblank b).soundPending = s.soundPending := rfl
@[simp] theorem State.setVblank_unknownPending (s : State) (b : Bool) : (s.setVblank b).unknownPending = s.unknownPending := rfl
@[simp] theorem State.setVblank_irqLine (s : State) (b : Bool) : (s.setVblank b).irqLine = s.irqLine := rfl
@[simp] theorem State.setVblank_eeDi (s : State) (b : Bool) : (s.setVblank b).eeDi = s.eeDi := rfl
@[simp] theorem State.setVblank_eeCs (s : State) (b : Bool) : (s.setVblank b).eeCs = s.eeCs := rfl
@[simp] theorem State.setVblank_eeClk (s : State) (b : Bool) : (s.setVblank b).eeClk = s.eeClk := rfl
@[simp] theorem State.setVblank_eeCore (s : State) (b : Bool) : (s.setVblank b).eeCore = s.eeCore := rfl
@[simp] theorem State.setVblank_mem (s : State) (b : Bool) : (s.setVblank b).mem = s.mem := rfl
@[simp] theorem State.setVblank_epoch (s : State) (b : Bool) : (s.setVblank b).epoch = s.epoch := rfl
@[simp] theorem State.setVblank_draws (s : State) (b : Bool) : (s.setVblank b).draws = s.draws := rfl
@[simp] theorem State.setVblank_trace (s : State) (b : Bool) : (s.setVblank b).trace = s.trace := rfl
@[simp] theorem State.setVblank_rdata (s : State) (b : Bool) : (s.setVblank b).rdata = s.rdata := rfl
@[simp] theorem State.setVblank_view (s : State) (b : Bool) : (s.setVblank b).view = s.view := rfl
@[simp] theorem State.setVblank_pending (s : State) (b : Bool) : (s.setVblank b).pending = s.pending := rfl
@[simp] theorem State.setVblank_env (s : State) (b : Bool) : (s.setVblank b).env = s.env := rfl

@[simp] theorem State.setSound_cfg (s : State) (b : Bool) : (s.setSound b).cfg = s.cfg := rfl
@[simp] theorem State.setSound_vblankPending (s : State) (b : Bool) : (s.setSound b).vblankPending = s.vblankPending := rfl
@[simp] theorem State.setSound_soundPending (s : State) (b : Bool) : (s.setSound b).soundPending = b := rfl
@[simp] theorem State.setSound_unknownPending (s : State) (b : Bool) : (s.setSound b).unknownPending = s.unknownPending := rfl
@[simp] theorem State.setSound_irqLine (s : State) (b : Bool) : (s.setSound b).irqLine = s.irqLine := rfl
@[simp] theorem State.setSound_eeDi (s : State) (b : Bool) : (s.setSound b).eeDi = s.eeDi := rfl
@[simp] theorem State.setSound_eeCs (s : State) (b : Bool) : (s.setSound b).eeCs = s.eeCs := rfl
@[simp] theorem State.setSound_eeClk (s : State) (b : Bool) : (s.setSound b).eeClk = s.eeClk := rfl
@[simp] theorem State.setSound_eeCore (s : State) (b : Bool) : (s.setSound b).eeCore = s.eeCore := rfl
@[simp] theorem State.setSound_mem (s : State) (b : Bool) : (s.setSound b).mem = s.mem := rfl
@[simp] theorem State.setSound_epoch (s : State) (b : Bool) : (s.setSound b).epoch = s.epoch := rfl
@[simp] theorem State.setSound_draws (s : State) (b : Bool) : (s.setSound b).draws = s.draws := rfl
@[simp] theorem State.setSound_trace (s : State) (b : Bool) : (s.setSound b).trace = s.trace := rfl
@[simp] theorem State.setSound_rdata (s : State) (b : Bool) : (s.setSound b).rdata = s.rdata := rfl
@[simp] theorem State.setSound_view (s : State) (b : Bool) : (s.setSound b).view = s.view := rfl
@[simp] theorem State.setSound_pending (s : State) (b : Bool) : (s.setSound b).pending = s.pending := rfl
@[simp] theorem State.setSound_env (s : State) (b : Bool) : (s.setSound b).env = s.env := rfl

@[simp] theorem State.setUnknown_cfg (s : State) (b : Bool) : (s.setUnknown b).cfg = s.cfg := rfl
@[simp] theorem State.setUnknown_vblankPending (s : State) (b : Bool) : (s.setUnknown b).vblankPending = s.vblankPending := rfl
@[simp] theorem State.setUnknown_soundPending (s : State) (b : Bool) : (s.setUnknown b).soundPending = s.soundPending := rfl
@[simp] theorem State.setUnknown_unknownPending (s : State) (b : Bool) : (s.setUnknown b).unknownPending = b := rfl
@[simp] theorem State.setUnknown_irqLine (s : State) (b : Bool) : (s.setUnknown b).irqLine = s.irqLine := rfl
@[simp] theorem State.setUnknown_eeDi (s : State) (b : Bool) : (s.setUnknown b).eeDi = s.eeDi := rfl
@[simp] theorem State.setUnknown_eeCs (s : State) (b : Bool) : (s.setUnknown b).eeCs = s.eeCs := rfl
@[simp] theorem State.setUnknown_eeClk (s : State) (b : Bool) : (s.setUnknown b).eeClk = s.eeClk := rfl
@[simp] theorem State.setUnknown_eeCore (s : State) (b : Bool) : (s.setUnknown b).eeCore = s.eeCore := rfl
@[simp] theorem State.setUnknown_mem (s : State) (b : Bool) : (s.setUnknown b).mem = s.mem := rfl
@[simp] theorem State.setUnknown_epoch (s : State) (b : Bool) : (s.setUnknown b).epoch = s.epoch := rfl
@[simp] theorem State.setUnknown_draws (s : State) (b : Bool) : (s.setUnknown b).draws = s.draws := rfl
@[simp] theorem State.setUnknown_trace (s : State) (b : Bool) : (s.setUnknown b).trace = s.trace := rfl
@[simp] theorem State.setUnknown_rdata (s : State) (b : Bool) : (s.setUnknown b).rdata = s.rdata := rfl
@[simp] theorem State.setUnknown_view (s : State) (b : Bool) : (s.setUnknown b).view = s.view := rfl
@[simp] theorem State.setUnknown_pending (s : State) (b : Bool) : (s.setUnknown b).pending = s.pending := rfl
@[simp] theorem State.setUnknown_env (s : State) (b : Bool) : (s.setUnknown b).env = s.env := rfl

@[simp] theorem State.setLine_cfg (s : State) (b : Bool) : (s.setLine b).cfg = s.cfg := rfl
@[simp] theorem State.setLine_vblankPending (s : State) (b : Bool) : (s.setLine b).vblankPending = s.vblankPending := rfl
@[simp] theorem State.setLine_soundPending (s : State) (b : Bool) : (s.setLine b).soundPending = s.soundPending := rfl
@[simp] theorem State.setLine_unknownPending (s : State) (b : Bool) : (s.setLine b).unknownPending = s.unknownPending := rfl
@[simp] theorem State.setLine_irqLine (s : State) (b : Bool) : (s.setLine b).irqLine = b := rfl
@[simp] theorem State.setLine_eeDi (s : State) (b : Bool) : (s.setLine b).eeDi = s.eeDi := rfl
@[simp] theorem State.setLine_eeCs (s : State) (b : Bool) : (s.setLine b).eeCs = s.eeCs := rfl
@[simp] theorem State.setLine_eeClk (s : State) (b : Bool) : (s.setLine b).eeClk = s.eeClk := rfl
@[simp] theorem State.setLine_eeCore (s : State) (b : Bool) : (s.setLine b).eeCore = s.eeCore := rfl
@[simp] theorem State.setLine_mem (s : State) (b : Bool) : (s.setLine b).mem = s.mem := rfl
@[simp] theorem State.setLine_epoch (s : State) (b : Bool) : (s.setLine b).epoch = s.epoch := rfl
@[simp] theorem State.setLine_draws (s : State) (b : Bool) : (s.setLine b).draws = s.draws := rfl
@[simp] theorem State.setLine_trace (s : State) (b : Bool) : (s.setLine b).trace = s.trace := rfl
@[simp] theorem State.setLine_rdata (s : State) (b : Bool) : (s.setLine b).rdata = s.rdata := rfl
@[simp] theorem State.setLine_view (s : State) (b : Bool) : (s.setLine b).view = s.view := rfl
@[simp] theorem State.setLine_pending (s : State) (b : Bool) : (s.setLine b).pending = s.pending := rfl
@[simp] theorem State.setLine_env (s : State) (b : Bool) : (s.setLine b).env = s.env := rfl

@[simp] theorem State.setEeDi_cfg (s : State) (b : Bool) : (s.setEeDi b).cfg = s.cfg := rfl
@[simp] theorem State.setEeDi_vblankPending (s : State) (b : Bool) : (s.setEeDi b).vblankPending = s.vblankPending := rfl
@[simp] theorem State.setEeDi_soundPending (s : State) (b : Bool) : (s.setEeDi b).soundPending = s.soundPending := rfl
@[simp] theorem State.setEeDi_unknownPending (s : State) (b : Bool) : (s.setEeDi b).unknownPending = s.unknownPending := rfl
@[simp] theorem State.setEeDi_irqLine (s : State) (b : Bool) : (s.setEeDi b).irqLine = s.irqLine := rfl
@[simp] theorem State.setEeDi_eeDi (s : State) (b : Bool) : (s.setEeDi b).eeDi = b := rfl
@[simp] theorem State.setEeDi_eeCs (s : State) (b : Bool) : (s.setEeDi b).eeCs = s.eeCs := rfl
@[simp] theorem State.setEeDi_eeClk (s : State) (b : Bool) : (s.setEeDi b).eeClk = s.eeClk := rfl
@[simp] theorem State.setEeDi_eeCore (s : State) (b : Bool) : (s.setEeDi b).eeCore = s.eeCore := rfl
@[simp] theorem State.setEeDi_mem (s : State) (b : Bool) : (s.setEeDi b).mem = s.mem := rfl
@[simp] theorem State.setEeDi_epoch (s : State) (b : Bool) : (s.setEeDi b).epoch = s.epoch := rfl
@[simp] theorem State.setEeDi_draws (s : State) (b : Bool) : (s.setEeDi b).draws = s.draws := rfl
@[simp] theorem State.setEeDi_trace (s : State) (b : Bool) : (s.setEeDi b).trace = s.trace := rfl
@[simp] theorem State.setEeDi_rdata (s : State) (b : Bool) : (s.setEeDi b).rdata = s.rdata := rfl
@[simp] theorem State.setEeDi_view (s : State) (b : Bool) : (s.setEeDi b).view = s.view := rfl
@[simp] theorem State.setEeDi_pending (s : State) (b : Bool) : (s.setEeDi b).pending = s.pending := rfl
@[simp] theorem State.setEeDi_env (s : State) (b : Bool) : (s.setEeDi b).env = s.env := rfl

@[simp] theorem State.setEeCs_cfg (s : State) (b : Bool) : (s.setEeCs b).cfg = s.cfg := rfl
@[simp] theorem State.setEeCs_vblankPending (s : State) (b : Bool) : (s.setEeCs b).vblankPending = s.vblankPending := rfl
@[simp] theorem State.setEeCs_soundPending (s : State) (b : Bool) : (s.setEeCs b).soundPending = s.soundPending := rfl
@[simp] theorem State.setEeCs_unknownPending (s : State) (b : Bool) : (s.setEeCs b).unknownPending = s.unknownPending := rfl
@[simp] theorem State.setEeCs_irqLine (s : State) (b : Bool) : (s.setEeCs b).irqLine = s.irqLine := rfl
@[simp] theorem State.setEeCs_eeDi (s : State) (b : Bool) : (s.setEeCs b).eeDi = s.eeDi := rfl
@[simp] theorem State.setEeCs_eeCs (s : State) (b : Bool) : (s.setEeCs b).eeCs = b := rfl
@[simp] theorem State.setEeCs_eeClk (s : State) (b : Bool) : (s.setEeCs b).eeClk = s.eeClk := rfl
@[simp] theorem State.setEeCs_eeCore (s : State) (b : Bool) : (s.setEeCs b).eeCore = s.eeCore := rfl
@[simp] theorem State.setEeCs_mem (s : State) (b : Bool) : (s.setEeCs b).mem = s.mem := rfl
@[simp] theorem State.setEeCs_epoch (s : State) (b : Bool) : (s.setEeCs b).epoch = s.epoch := rfl
@[simp] theorem State.setEeCs_draws (s : State) (b : Bool) : (s.setEeCs b).draws = s.draws := rfl
@[simp] theorem State.setEeCs_trace (s : State) (b : Bool) : (s.setEeCs b).trace = s.trace := rfl
@[simp] theorem State.setEeCs_rdata (s : State) (b : Bool) : (s.setEeCs b).rdata = s.rdata := rfl
@[simp] theorem State.setEeCs_view (s : State) (b : Bool) : (s.setEeCs b).view = s.view := rfl
@[simp] theorem State.setEeCs_pending (s : State) (b : Bool) : (s.setEeCs b).pending = s.pending := rfl
@[simp] theorem State.setEeCs_env (s : State) (b : Bool) : (s.setEeCs b).env = s.env := rfl

@[simp] theorem State.setEeClk_cfg (s : State) (b : Bool) : (s.setEeClk b).cfg = s.cfg := rfl
@[simp] theorem State.setEeClk_vblankPending (s : State) (b : Bool) : (s.setEeClk b).vblankPending = s.vblankPending := rfl
@[simp] theorem State.setEeClk_soundPending (s : State) (b : Bool) : (s.setEeClk b).soundPending = s.soundPending := rfl
@[simp] theorem State.setEeClk_unknownPending (s : State) (b : Bool) : (s.setEeClk b).unknownPending = s.unknownPending := rfl
@[simp] theorem State.setEeClk_irqLine (s : State) (b : Bool) : (s.setEeClk b).irqLine = s.irqLine := rfl
@[simp] theorem State.setEeClk_eeDi (s : State) (b : Bool) : (s.setEeClk b).eeDi = s.eeDi := rfl
@[simp] theorem State.setEeClk_eeCs (s : State) (b : Bool) : (s.setEeClk b).eeCs = s.eeCs := rfl
@[simp] theorem State.setEeClk_eeClk (s : State) (b : Bool) : (s.setEeClk b).eeClk = b := rfl
@[simp] theorem State.setEeClk_eeCore (s : State) (b : Bool) : (s.setEeClk b).eeCore = s.eeCore := rfl
@[simp] theorem State.setEeClk_mem (s : State) (b : Bool) : (s.setEeClk b).mem = s.mem := rfl
@[simp] theorem State.setEeClk_epoch (s : State) (b : Bool) : (s.setEeClk b).epoch = s.epoch := rfl
@[simp] theorem State.setEeClk_draws (s : State) (b : Bool) : (s.setEeClk b).draws = s.draws := rfl
@[simp] theorem State.setEeClk_trace (s : State) (b : Bool) : (s.setEeClk b).trace = s.trace := rfl
@[simp] theorem State.setEeClk_rdata (s : State) (b : Bool) : (s.setEeClk b).rdata = s.rdata := rfl
@[simp] theorem State.setEeClk_view (s : State) (b : Bool) : (s.setEeClk b).view = s.view := rfl
@[simp] theorem State.setEeClk_pending (s : State) (b : Bool) : (s.setEeClk b).pending = s.pending := rfl
@[simp] theorem State.setEeClk_env (s : State) (b : Bool) : (s.setEeClk b).env = s.env := rfl

@[simp] theorem State.setEeCore_cfg (s : State) (c : EeCore) : (s.setEeCore c).cfg = s.cfg := rfl
@[simp] theorem State.setEeCore_vblankPending (s : State) (c : EeCore) : (s.setEeCore c).vblankPending = s.vblankPending := rfl
@[simp] theorem State.setEeCore_soundPending (s : State) (c : EeCore) : (s.setEeCore c).soundPending = s.soundPending := rfl
@[simp] theorem State.setEeCore_unknownPending (s : State) (c : EeCore) : (s.setEeCore c).unknownPending = s.unknownPending := rfl
@[simp] theorem State.setEeCore_irqLine (s : State) (c : EeCore) : (s.setEeCore c).irqLine = s.irqLine := rfl
@[simp] theorem State.setEeCore_eeDi (s : State) (c : EeCore) : (s.setEeCore c).eeDi = s.eeDi := rfl
@[simp] theorem State.setEeCore_eeCs (s : State) (c : EeCore) : (s.setEeCore c).eeCs = s.eeCs := rfl
@[simp] theorem State.setEeCore_eeClk (s : State) (c : EeCore) : (s.setEeCore c).eeClk = s.eeClk := rfl
@[simp] theorem State.setEeCore_eeCore (s : State) (c : EeCore) : (s.setEeCore c).eeCore = c := rfl
@[simp] theorem State.setEeCore_mem (s : State) (c : EeCore) : (s.setEeCore c).mem = s.mem := rfl
@[simp] theorem State.setEeCore_epoch (s : State) (c : EeCore) : (s.setEeCore c).epoch = s.epoch := rfl
@[simp] theorem State.setEeCore_draws (s : State) (c : EeCore) : (s.setEeCore c).draws = s.draws := rfl
@[simp] theorem State.setEeCore_trace (s : State) (c : EeCore) : (s.setEeCore c).trace = s.trace := rfl
@[simp] theorem State.setEeCore_rdata (s : State) (c : EeCore) : (s.setEeCore c).rdata = s.rdata := rfl
@[simp] theorem State.setEeCore_view (s : State) (c : EeCore) : (s.setEeCore c).view = s.view := rfl
@[simp] theorem State.setEeCore_pending (s : State) (c : EeCore) : (s.setEeCore c).pending = s.pending := rfl
@[simp] theorem State.setEeCore_env (s : State) (c : EeCore) : (s.setEeCore c).env = s.env := rfl

@[simp] theorem State.setMem_cfg (s : State) (m : Memory) : (s.setMem m).cfg = s.cfg := rfl
@[simp] theorem State.setMem_vblankPending (s : State) (m : Memory) : (s.setMem m).vblankPending = s.vblankPending := rfl
@[simp] theorem State.setMem_soundPending (s : State) (m : Memory) : (s.setMem m).soundPending = s.soundPending := rfl
@[simp] theorem State.setMem_unknownPending (s : State) (m : Memory) : (s.setMem m).unknownPending = s.unknownPending := rfl
@[simp] theorem State.setMem_irqLine (s : State) (m : Memory) : (s.setMem m).irqLine = s.irqLine := rfl
@[simp] theorem State.setMem_eeDi (s : State) (m : Memory) : (s.setMem m).eeDi = s.eeDi := rfl
@[simp] theorem State.setMem_eeCs (s : State) (m : Memory) : (s.setMem m).eeCs = s.eeCs := rfl
@[simp] theorem State.setMem_eeClk (s : State) (m : Memory) : (s.setMem m).eeClk = s.eeClk := rfl
@[simp] theorem State.setMem_eeCore (s : State) (m : Memory) : (s.setMem m).eeCore = s.eeCore := rfl
@[simp] theorem State.setMem_mem (s : State) (m : Memory) : (s.setMem m).mem = m := rfl
@[simp] theorem State.setMem_epoch (s : State) (m : Memory) : (s.setMem m).epoch = s.epoch := rfl
@[simp] theorem State.setMem_draws (s : State) (m : Memory) : (s.setMem m).draws = s.draws := rfl
@[simp] theorem State.setMem_trace (s : State) (m : Memory) : (s.setMem m).trace = s.trace := rfl
@[simp] theorem State.setMem_rdata (s : State) (m : Memory) : (s.setMem m).rdata = s.rdata := rfl
@[simp] theorem State.setMem_view (s : State) (m : Memory) : (s.setMem m).view = s.view := rfl
@[simp] theorem State.setMem_pending (s : State) (m : Memory) : (s.setMem m).pending = s.pending := rfl
@[simp] theorem State.setMem_env (s : State) (m : Memory) : (s.setMem m).env = s.env := rfl

@[simp] theorem State.nextEpoch_cfg (s : State) : (s.nextEpoch).cfg = s.cfg := rfl
@[simp] theorem State.nextEpoch_vblankPending (s : State) : (s.nextEpoch).vblankPending = s.vblankPending := rfl
@[simp] theorem State.nextEpoch_soundPending (s : State) : (s.nextEpoch).soundPending = s.soundPending := rfl
@[simp] theorem State.nextEpoch_unknownPending (s : State) : (s.nextEpoch).unknownPending = s.unknownPending := rfl
@[simp] theorem State.nextEpoch_irqLine (s : State) : (s.nextEpoch).irqLine = s.irqLine := rfl
@[simp] theorem State.nextEpoch_eeDi (s : State) : (s.nextEpoch).eeDi = s.eeDi := rfl
@[simp] theorem State.nextEpoch_eeCs (s : State) : (s.nextEpoch).eeCs = s.eeCs := rfl
@[simp] theorem State.nextEpoch_eeClk (s : State) : (s.nextEpoch).eeClk = s.eeClk := rfl
@[simp] theorem State.nextEpoch_eeCore (s : State) : (s.nextEpoch).eeCore = s.eeCore := rfl
@[simp] theorem State.nextEpoch_mem (s : State) : (s.nextEpoch).mem = s.mem := rfl
@[simp] theorem State.nextEpoch_epoch (s : State) : (s.nextEpoch).epoch = s.epoch + 1 := rfl
@[simp] theorem State.nextEpoch_draws (s : State) : (s.nextEpoch).draws = s.draws := rfl
@[simp] theorem State.nextEpoch_trace (s : State) : (s.nextEpoch).trace = s.trace := rfl
@[simp] theorem State.nextEpoch_rdata (s : State) : (s.nextEpoch).rdata = s.rdata := rfl
@[simp] theorem State.nextEpoch_view (s : State) : (s.nextEpoch).view = s.view := rfl
@[simp] theorem State.nextEpoch_pending (s : State) : (s.nextEpoch).pending = s.pending := rfl
@[simp] theorem State.nextEpoch_env (s : State) : (s.nextEpoch).env = s.env := rfl

@[simp] theorem State.nextDraw_cfg (s : State) : (s.nextDraw).cfg = s.cfg := rfl
@[simp] theorem State.nextDraw_vblankPending (s : State) : (s.nextDraw).vblankPending = s.vblankPending := rfl
@[simp] theorem State.nextDraw_soundPending (s : State) : (s.nextDraw).soundPending = s.soundPending := rfl
@[simp] theorem State.nextDraw_unknownPending (s : State) : (s.nextDraw).unknownPending = s.unknownPending := rfl
@[simp] theorem State.nextDraw_irqLine (s : State) : (s.nextDraw).irqLine = s.irqLine := rfl
@[simp] theorem State.nextDraw_eeDi (s : State) : (s.nextDraw).eeDi = s.eeDi := rfl
@[simp] theorem State.nextDraw_eeCs (s : State) : (s.nextDraw).eeCs = s.eeCs := rfl
@[simp] theorem State.nextDraw_eeClk (s : State) : (s.nextDraw).eeClk = s.eeClk := rfl
@[simp] theorem State.nextDraw_eeCore (s : State) : (s.nextDraw).eeCore = s.eeCore := rfl
@[simp] theorem State.nextDraw_mem (s : State) : (s.nextDraw).mem = s.mem := rfl
@[simp] theorem State.nextDraw_epoch (s : State) : (s.nextDraw).epoch = s.epoch := rfl
@[simp] theorem State.nextDraw_draws (s : State) : (s.nextDraw).draws = s.draws + 1 := rfl
@[simp] theorem State.nextDraw_trace (s : State) : (s.nextDraw).trace = s.trace := rfl
@[simp] theorem State.nextDraw_rdata (s : State) : (s.nextDraw).rdata = s.rdata := rfl
@[simp] theorem State.nextDraw_view (s : State) : (s.nextDraw).view = s.view := rfl
@[simp] theorem State.nextDraw_pending (s : State) : (s.nextDraw).pending = s.pending := rfl
@[simp] theorem State.nextDraw_env (s : State) : (s.nextDraw).env = s.env := rfl

@[simp] theorem State.emit_cfg (s : State) (c : Call) : (s.emit c).cfg = s.cfg := rfl
@[simp] theorem State.emit_vblankPending (s : State) (c : Call) : (s.emit c).vblankPending = s.vblankPending := rfl
@[simp] theorem State.emit_soundPending (s : State) (c : Call) : (s.emit c).soundPending = s.soundPending := rfl
@[simp] theorem State.emit_unknownPending (s : State) (c : Call) : (s.emit c).unknownPending = s.unknownPending := rfl
@[simp] theorem State.emit_irqLine (s : State) (c : Call) : (s.emit c).irqLine = s.irqLine := rfl
@[simp] theorem State.emit_eeDi (s : State) (c : Call) : (s.emit c).eeDi = s.eeDi := rfl
@[simp] theorem State.emit_eeCs (s : State) (c : Call) : (s.emit c).eeCs = s.eeCs := rfl
@[simp] theorem State.emit_eeClk (s : State) (c : Call) : (s.emit c).eeClk = s.eeClk := rfl
@[simp] theorem State.emit_eeCore (s : State) (c : Call) : (s.emit c).eeCore = s.eeCore := rfl
@[simp] theorem State.emit_mem (s : State) (c : Call) : (s.emit c).mem = s.mem := rfl
@[simp] theorem State.emit_epoch (s : State) (c : Call) : (s.emit c).epoch = s.epoch := rfl
@[simp] theorem State.emit_draws (s : State) (c : Call) : (s.emit c).draws = s.draws := rfl
@[simp] theorem State.emit_trace (s : State) (c : Call) : (s.emit c).trace = s.trace ++ [c] := rfl
@[simp] theorem State.emit_rdata (s : State) (c : Call) : (s.emit c).rdata = s.rdata := rfl
@[simp] theorem State.emit_view (s : State) (c : Call) : (s.emit c).view = s.view := rfl
@[simp] theorem State.emit_pending (s : State) (c : Call) : (s.emit c).pending = s.pending := rfl
@[simp] theorem State.emit_env (s : State) (c : Call) : (s.emit c).env = s.env := rfl

@[simp] theorem State.answer_cfg (s : State) (v : Word) : (s.answer v).cfg = s.cfg := rfl
@[simp] theorem State.answer_vblankPending (s : State) (v : Word) : (s.answer v).vblankPending = s.vblankPending := rfl
@[simp] theorem State.answer_soundPending (s : State) (v : Word) : (s.answer v).soundPending = s.soundPending := rfl
@[simp] theorem State.answer_unknownPending (s : State) (v : Word) : (s.answer v).unknownPending = s.unknownPending := rfl
@[simp] theorem State.answer_irqLine (s : State) (v : Word) : (s.answer v).irqLine = s.irqLine := rfl
@[simp] theorem State.answer_eeDi (s : State) (v : Word) : (s.answer v).eeDi = s.eeDi := rfl
@[simp] theorem State.answer_eeCs (s : State) (v : Word) : (s.answer v).eeCs = s.eeCs := rfl
@[simp] theorem State.answer_eeClk (s : State) (v : Word) : (s.answer v).eeClk = s.eeClk := rfl
@[simp] theorem State.answer_eeCore (s : State) (v : Word) : (s.answer v).eeCore = s.eeCore := rfl
@[simp] theorem State.answer_mem (s : State) (v : Word) : (s.answer v).mem = s.mem := rfl
@[simp] theorem State.answer_epoch (s : State) (v : Word) : (s.answer v).epoch = s.epoch := rfl
@[simp] theorem State.answer_draws (s : State) (v : Word) : (s.answer v).draws = s.draws := rfl
@[simp] theorem State.answer_trace (s : State) (v : Word) : (s.answer v).trace = s.trace := rfl
@[simp] theorem State.answer_rdata (s : State) (v : Word) : (s.answer v).rdata = some v := rfl
@[simp] theorem State.answer_view (s : State) (v : Word) : (s.answer v).view = s.view := rfl
@[simp] theorem State.answer_pending (s : State) (v : Word) : (s.answer v).pending = s.pending := rfl
@[simp] theorem State.answer_env (s : State) (v : Word) : (s.answer v).env = s.env := rfl

@[simp] theorem State.display_cfg (s : State) (v : List UnitView) : (s.display v).cfg = s.cfg := rfl
@[simp] theorem State.display_vblankPending (s : State) (v : List UnitView) : (s.display v).vblankPending = s.vblankPending := rfl
@[simp] theorem State.display_soundPending (s : State) (v : List UnitView) : (s.display v).soundPending = s.soundPending := rfl
@[simp] theorem State.display_unknownPending (s : State) (v : List UnitView) : (s.display v).unknownPending = s.unknownPending := rfl
@[simp] theorem State.display_irqLine (s : State) (v : List UnitView) : (s.display v).irqLine = s.irqLine := rfl
@[simp] theorem State.display_eeDi (s : State) (v : List UnitView) : (s.display v).eeDi = s.eeDi := rfl
@[simp] theorem State.display_eeCs (s : State) (v : List UnitView) : (s.display v).eeCs = s.eeCs := rfl
@[simp] theorem State.display_eeClk (s : State) (v : List UnitView) : (s.display v).eeClk = s.eeClk := rfl
@[simp] theorem State.display_eeCore (s : State) (v : List UnitView) : (s.display v).eeCore = s.eeCore := rfl
@[simp] theorem State.display_mem (s : State) (v : List UnitView) : (s.display v).mem = s.mem := rfl
@[simp] theorem State.display_epoch (s : State) (v : List UnitView) : (s.display v).epoch = s.epoch := rfl
@[simp] theorem State.display_draws (s : State) (v : List UnitView) : (s.display v).draws = s.draws := rfl
@[simp] theorem State.display_trace (s : State) (v : List UnitView) : (s.display v).trace = s.trace := rfl
@[simp] theorem State.display_rdata (s : State) (v : List UnitView) : (s.display v).rdata = s.rdata := rfl
@[simp] theorem State.display_view (s : State) (v : List UnitView) : (s.display v).view = some v := rfl
@[simp] theorem State.display_pending (s : State) (v : List UnitView) : (s.display v).pending = s.pending := rfl
@[simp] theorem State.display_env (s : State) (v : List UnitView) : (s.display v).env = s.env := rfl

@[simp] theorem State.take_cfg (s : State) (p : Presented) (rest : List Presented) : (s.take p rest).cfg = s.cfg := rfl
@[simp] theorem State.take_vblankPending (s : State) (p : Presented) (rest : List Presented) : (s.take p rest).vblankPending = s.vblankPending := rfl
@[simp] theorem State.take_soundPending (s : State) (p : Presented) (rest : List Presented) : (s.take p rest).soundPending = s.soundPending := rfl
@[simp] theorem State.take_unknownPending (s : State) (p : Presented) (rest : List Presented) : (s.take p rest).unknownPending = s.unknownPending := rfl
@[simp] theorem State.take_irqLine (s : State) (p : Presented) (rest : List Presented) : (s.take p rest).irqLine = s.irqLine := rfl
@[simp] theorem State.take_eeDi (s : State) (p : Presented) (rest : List Presented) : (s.take p rest).eeDi = s.eeDi := rfl
@[simp] theorem State.take_eeCs (s : State) (p : Presented) (rest : List Presented) : (s.take p rest).eeCs = s.eeCs := rfl
@[simp] theorem State.take_eeClk (s : State) (p : Presented) (rest : List Presented) : (s.take p rest).eeClk = s.eeClk := rfl
@[simp] theorem State.take_eeCore (s : State) (p : Presented) (rest : List Presented) : (s.take p rest).eeCore = s.eeCore := rfl
@[simp] theorem State.take_mem (s : State) (p : Presented) (rest : List Presented) : (s.take p rest).mem = s.mem := rfl
@[simp] theorem State.take_epoch (s : State) (p : Presented) (rest : List Presented) : (s.take p rest).epoch = s.epoch := rfl
@[simp] theorem State.take_draws (s : State) (p : Presented) (rest : List Presented) : (s.take p rest).draws = s.draws := rfl
@[simp] theorem State.take_trace (s : State) (p : Presented) (rest : List Presented) : (s.take p rest).trace = s.trace := rfl
@[simp] theorem State.take_rdata (s : State) (p : Presented) (rest : List Presented) : (s.take p rest).rdata = none := rfl
@[simp] theorem State.take_view (s : State) (p : Presented) (rest : List Presented) : (s.take p rest).view = none := rfl
@[simp] theorem State.take_pending (s : State) (p : Presented) (rest : List Presented) : (s.take p rest).pending = rest := rfl
@[simp] theorem State.take_env (s : State) (p : Presented) (rest : List Presented) : (s.take p rest).env = p.env := rfl

end Sys2Proof.Machine
end

