-- ==== Sys2Proof/Laws/Ops.lean ====
section
/-! SUPPORT. Laws/Ops.lean: what each shared operation does, said once: the record update it is, the fields it leaves, and
for storage what a byte reads as afterwards. -/

namespace Sys2Proof.Machine

open Sys2Proof

theorem onUnit_of_inside {c : Config} {u : UnitId} {off : Addr} (t : State) (h : inUnit c u off = true) :
    onUnit c u off t = .next t := by simp [onUnit, h]

theorem onUnit_of_outside {c : Config} {u : UnitId} {off : Addr} (t : State) (h : inUnit c u off = false) :
    onUnit c u off t = .refused .outsideUnit := by simp [onUnit, h]

/-- A storage operation answers a next state exactly where its word is inside its unit. -/
theorem onUnit_next {c : Config} {u : UnitId} {off : Addr} {t t' : State} :
    onUnit c u off t = .next t' ↔ inUnit c u off = true ∧ t' = t := by
  cases h : inUnit c u off <;> simp [onUnit, h, eq_comm]

theorem updateIrq_eq (s : State) :
    updateIrq s = { s with irqLine := s.vblankPending || s.soundPending || s.unknownPending } := rfl

theorem readDraw_eq (s : State) :
    readDraw s = { s with rdata := some (Config.drawWord s.draws), draws := s.draws + 1 } := rfl

theorem eeDrive_eq (s : State) (di cs clk : Bool) :
    eeDrive s di cs clk =
      { s with
        eeDi := di
        eeCs := cs
        eeClk := clk
        eeCore := coreSetclk s.cfg.eecore (coreSetcs s.cfg.eecore (coreWrbit s.cfg.eecore s.eeCore di) cs) s.eeClk clk } :=
  rfl

theorem eeRestart_eq (s : State) (b : List Byte) :
    eeRestart s b = { s with eeDi := false, eeCs := true, eeClk := false, eeCore := coreInit s.cfg.eecore b } := rfl

theorem resetBlock_eq (s : State) :
    resetBlock s =
      { s with
        vblankPending := false
        soundPending := false
        unknownPending := false
        irqLine := false
        eeDi := false
        eeCs := true
        eeClk := false
        eeCore := coreInit s.cfg.eecore s.eeCore.nv
        mem := []
        epoch := s.epoch + 1 } :=
  rfl

theorem eeControl_of_effective {l : Layout} {w : Word32} (s : State) (h : eeEffective l w = true) :
    eeControl s l w = eeDrive s (eeDiBit l w) (eeCsBit l w) (eeClkBit l w) := by simp [eeControl, h]

theorem eeControl_of_blocked {l : Layout} {w : Word32} (s : State) (h : eeEffective l w = false) :
    eeControl s l w = s := by simp [eeControl, h]

/-- An EEPROM control write either drives the three signals or does nothing. -/
theorem eeControl_cases (s : State) (l : Layout) (w : Word32) :
    eeControl s l w = s ∨ ∃ di cs clk, eeControl s l w = eeDrive s di cs clk := by
  unfold eeControl
  split
  · exact .inr ⟨_, _, _, rfl⟩
  · exact .inl rfl

/-- A sound write either emits its call or does nothing. -/
theorem soundWrite_cases (s : State) (w : Word32) (c : Call) : soundWrite s w c = s ∨ soundWrite s w c = s.emit c := by
  unfold soundWrite
  split
  · exact .inr rfl
  · exact .inl rfl

@[simp] theorem writeWord_cfg (s : State) (u : UnitId) (off : Addr) (v : Word) : (writeWord s u off v).cfg = s.cfg := rfl
@[simp] theorem writeWord_vblankPending (s : State) (u : UnitId) (off : Addr) (v : Word) : (writeWord s u off v).vblankPending = s.vblankPending := rfl
@[simp] theorem writeWord_soundPending (s : State) (u : UnitId) (off : Addr) (v : Word) : (writeWord s u off v).soundPending = s.soundPending := rfl
@[simp] theorem writeWord_unknownPending (s : State) (u : UnitId) (off : Addr) (v : Word) : (writeWord s u off v).unknownPending = s.unknownPending := rfl
@[simp] theorem writeWord_irqLine (s : State) (u : UnitId) (off : Addr) (v : Word) : (writeWord s u off v).irqLine = s.irqLine := rfl
@[simp] theorem writeWord_eeDi (s : State) (u : UnitId) (off : Addr) (v : Word) : (writeWord s u off v).eeDi = s.eeDi := rfl
@[simp] theorem writeWord_eeCs (s : State) (u : UnitId) (off : Addr) (v : Word) : (writeWord s u off v).eeCs = s.eeCs := rfl
@[simp] theorem writeWord_eeClk (s : State) (u : UnitId) (off : Addr) (v : Word) : (writeWord s u off v).eeClk = s.eeClk := rfl
@[simp] theorem writeWord_eeCore (s : State) (u : UnitId) (off : Addr) (v : Word) : (writeWord s u off v).eeCore = s.eeCore := rfl
@[simp] theorem writeWord_epoch (s : State) (u : UnitId) (off : Addr) (v : Word) : (writeWord s u off v).epoch = s.epoch := rfl
@[simp] theorem writeWord_draws (s : State) (u : UnitId) (off : Addr) (v : Word) : (writeWord s u off v).draws = s.draws := rfl
@[simp] theorem writeWord_trace (s : State) (u : UnitId) (off : Addr) (v : Word) : (writeWord s u off v).trace = s.trace := rfl
@[simp] theorem writeWord_rdata (s : State) (u : UnitId) (off : Addr) (v : Word) : (writeWord s u off v).rdata = s.rdata := rfl
@[simp] theorem writeWord_view (s : State) (u : UnitId) (off : Addr) (v : Word) : (writeWord s u off v).view = s.view := rfl
@[simp] theorem writeWord_pending (s : State) (u : UnitId) (off : Addr) (v : Word) : (writeWord s u off v).pending = s.pending := rfl
@[simp] theorem writeWord_env (s : State) (u : UnitId) (off : Addr) (v : Word) : (writeWord s u off v).env = s.env := rfl

@[simp] theorem storeWrite_cfg (s : State) (u : UnitId) (off : Addr) (w : Word32) : (storeWrite s u off w).cfg = s.cfg := rfl
@[simp] theorem storeWrite_vblankPending (s : State) (u : UnitId) (off : Addr) (w : Word32) : (storeWrite s u off w).vblankPending = s.vblankPending := rfl
@[simp] theorem storeWrite_soundPending (s : State) (u : UnitId) (off : Addr) (w : Word32) : (storeWrite s u off w).soundPending = s.soundPending := rfl
@[simp] theorem storeWrite_unknownPending (s : State) (u : UnitId) (off : Addr) (w : Word32) : (storeWrite s u off w).unknownPending = s.unknownPending := rfl
@[simp] theorem storeWrite_irqLine (s : State) (u : UnitId) (off : Addr) (w : Word32) : (storeWrite s u off w).irqLine = s.irqLine := rfl
@[simp] theorem storeWrite_eeDi (s : State) (u : UnitId) (off : Addr) (w : Word32) : (storeWrite s u off w).eeDi = s.eeDi := rfl
@[simp] theorem storeWrite_eeCs (s : State) (u : UnitId) (off : Addr) (w : Word32) : (storeWrite s u off w).eeCs = s.eeCs := rfl
@[simp] theorem storeWrite_eeClk (s : State) (u : UnitId) (off : Addr) (w : Word32) : (storeWrite s u off w).eeClk = s.eeClk := rfl
@[simp] theorem storeWrite_eeCore (s : State) (u : UnitId) (off : Addr) (w : Word32) : (storeWrite s u off w).eeCore = s.eeCore := rfl
@[simp] theorem storeWrite_epoch (s : State) (u : UnitId) (off : Addr) (w : Word32) : (storeWrite s u off w).epoch = s.epoch := rfl
@[simp] theorem storeWrite_draws (s : State) (u : UnitId) (off : Addr) (w : Word32) : (storeWrite s u off w).draws = s.draws := rfl
@[simp] theorem storeWrite_trace (s : State) (u : UnitId) (off : Addr) (w : Word32) : (storeWrite s u off w).trace = s.trace := rfl
@[simp] theorem storeWrite_rdata (s : State) (u : UnitId) (off : Addr) (w : Word32) : (storeWrite s u off w).rdata = s.rdata := rfl
@[simp] theorem storeWrite_view (s : State) (u : UnitId) (off : Addr) (w : Word32) : (storeWrite s u off w).view = s.view := rfl
@[simp] theorem storeWrite_pending (s : State) (u : UnitId) (off : Addr) (w : Word32) : (storeWrite s u off w).pending = s.pending := rfl
@[simp] theorem storeWrite_env (s : State) (u : UnitId) (off : Addr) (w : Word32) : (storeWrite s u off w).env = s.env := rfl

@[simp] theorem updateIrq_cfg (s : State) : (updateIrq s).cfg = s.cfg := rfl
@[simp] theorem updateIrq_vblankPending (s : State) : (updateIrq s).vblankPending = s.vblankPending := rfl
@[simp] theorem updateIrq_soundPending (s : State) : (updateIrq s).soundPending = s.soundPending := rfl
@[simp] theorem updateIrq_unknownPending (s : State) : (updateIrq s).unknownPending = s.unknownPending := rfl
@[simp] theorem updateIrq_eeDi (s : State) : (updateIrq s).eeDi = s.eeDi := rfl
@[simp] theorem updateIrq_eeCs (s : State) : (updateIrq s).eeCs = s.eeCs := rfl
@[simp] theorem updateIrq_eeClk (s : State) : (updateIrq s).eeClk = s.eeClk := rfl
@[simp] theorem updateIrq_eeCore (s : State) : (updateIrq s).eeCore = s.eeCore := rfl
@[simp] theorem updateIrq_mem (s : State) : (updateIrq s).mem = s.mem := rfl
@[simp] theorem updateIrq_epoch (s : State) : (updateIrq s).epoch = s.epoch := rfl
@[simp] theorem updateIrq_draws (s : State) : (updateIrq s).draws = s.draws := rfl
@[simp] theorem updateIrq_trace (s : State) : (updateIrq s).trace = s.trace := rfl
@[simp] theorem updateIrq_rdata (s : State) : (updateIrq s).rdata = s.rdata := rfl
@[simp] theorem updateIrq_view (s : State) : (updateIrq s).view = s.view := rfl
@[simp] theorem updateIrq_pending (s : State) : (updateIrq s).pending = s.pending := rfl
@[simp] theorem updateIrq_env (s : State) : (updateIrq s).env = s.env := rfl

@[simp] theorem eeDrive_cfg (s : State) (di cs clk : Bool) : (eeDrive s di cs clk).cfg = s.cfg := rfl
@[simp] theorem eeDrive_vblankPending (s : State) (di cs clk : Bool) : (eeDrive s di cs clk).vblankPending = s.vblankPending := rfl
@[simp] theorem eeDrive_soundPending (s : State) (di cs clk : Bool) : (eeDrive s di cs clk).soundPending = s.soundPending := rfl
@[simp] theorem eeDrive_unknownPending (s : State) (di cs clk : Bool) : (eeDrive s di cs clk).unknownPending = s.unknownPending := rfl
@[simp] theorem eeDrive_irqLine (s : State) (di cs clk : Bool) : (eeDrive s di cs clk).irqLine = s.irqLine := rfl
@[simp] theorem eeDrive_mem (s : State) (di cs clk : Bool) : (eeDrive s di cs clk).mem = s.mem := rfl
@[simp] theorem eeDrive_epoch (s : State) (di cs clk : Bool) : (eeDrive s di cs clk).epoch = s.epoch := rfl
@[simp] theorem eeDrive_draws (s : State) (di cs clk : Bool) : (eeDrive s di cs clk).draws = s.draws := rfl
@[simp] theorem eeDrive_trace (s : State) (di cs clk : Bool) : (eeDrive s di cs clk).trace = s.trace := rfl
@[simp] theorem eeDrive_rdata (s : State) (di cs clk : Bool) : (eeDrive s di cs clk).rdata = s.rdata := rfl
@[simp] theorem eeDrive_view (s : State) (di cs clk : Bool) : (eeDrive s di cs clk).view = s.view := rfl
@[simp] theorem eeDrive_pending (s : State) (di cs clk : Bool) : (eeDrive s di cs clk).pending = s.pending := rfl
@[simp] theorem eeDrive_env (s : State) (di cs clk : Bool) : (eeDrive s di cs clk).env = s.env := rfl

@[simp] theorem eeRestart_cfg (s : State) (b : List Byte) : (eeRestart s b).cfg = s.cfg := rfl
@[simp] theorem eeRestart_vblankPending (s : State) (b : List Byte) : (eeRestart s b).vblankPending = s.vblankPending := rfl
@[simp] theorem eeRestart_soundPending (s : State) (b : List Byte) : (eeRestart s b).soundPending = s.soundPending := rfl
@[simp] theorem eeRestart_unknownPending (s : State) (b : List Byte) : (eeRestart s b).unknownPending = s.unknownPending := rfl
@[simp] theorem eeRestart_irqLine (s : State) (b : List Byte) : (eeRestart s b).irqLine = s.irqLine := rfl
@[simp] theorem eeRestart_mem (s : State) (b : List Byte) : (eeRestart s b).mem = s.mem := rfl
@[simp] theorem eeRestart_epoch (s : State) (b : List Byte) : (eeRestart s b).epoch = s.epoch := rfl
@[simp] theorem eeRestart_draws (s : State) (b : List Byte) : (eeRestart s b).draws = s.draws := rfl
@[simp] theorem eeRestart_trace (s : State) (b : List Byte) : (eeRestart s b).trace = s.trace := rfl
@[simp] theorem eeRestart_rdata (s : State) (b : List Byte) : (eeRestart s b).rdata = s.rdata := rfl
@[simp] theorem eeRestart_view (s : State) (b : List Byte) : (eeRestart s b).view = s.view := rfl
@[simp] theorem eeRestart_pending (s : State) (b : List Byte) : (eeRestart s b).pending = s.pending := rfl
@[simp] theorem eeRestart_env (s : State) (b : List Byte) : (eeRestart s b).env = s.env := rfl

@[simp] theorem readDraw_cfg (s : State) : (readDraw s).cfg = s.cfg := rfl
@[simp] theorem readDraw_vblankPending (s : State) : (readDraw s).vblankPending = s.vblankPending := rfl
@[simp] theorem readDraw_soundPending (s : State) : (readDraw s).soundPending = s.soundPending := rfl
@[simp] theorem readDraw_unknownPending (s : State) : (readDraw s).unknownPending = s.unknownPending := rfl
@[simp] theorem readDraw_irqLine (s : State) : (readDraw s).irqLine = s.irqLine := rfl
@[simp] theorem readDraw_eeDi (s : State) : (readDraw s).eeDi = s.eeDi := rfl
@[simp] theorem readDraw_eeCs (s : State) : (readDraw s).eeCs = s.eeCs := rfl
@[simp] theorem readDraw_eeClk (s : State) : (readDraw s).eeClk = s.eeClk := rfl
@[simp] theorem readDraw_eeCore (s : State) : (readDraw s).eeCore = s.eeCore := rfl
@[simp] theorem readDraw_mem (s : State) : (readDraw s).mem = s.mem := rfl
@[simp] theorem readDraw_epoch (s : State) : (readDraw s).epoch = s.epoch := rfl
@[simp] theorem readDraw_trace (s : State) : (readDraw s).trace = s.trace := rfl
@[simp] theorem readDraw_view (s : State) : (readDraw s).view = s.view := rfl
@[simp] theorem readDraw_pending (s : State) : (readDraw s).pending = s.pending := rfl
@[simp] theorem readDraw_env (s : State) : (readDraw s).env = s.env := rfl

@[simp] theorem resetBlock_cfg (s : State) : (resetBlock s).cfg = s.cfg := rfl
@[simp] theorem resetBlock_draws (s : State) : (resetBlock s).draws = s.draws := rfl
@[simp] theorem resetBlock_trace (s : State) : (resetBlock s).trace = s.trace := rfl
@[simp] theorem resetBlock_rdata (s : State) : (resetBlock s).rdata = s.rdata := rfl
@[simp] theorem resetBlock_view (s : State) : (resetBlock s).view = s.view := rfl
@[simp] theorem resetBlock_pending (s : State) : (resetBlock s).pending = s.pending := rfl
@[simp] theorem resetBlock_env (s : State) : (resetBlock s).env = s.env := rfl

/-- A byte of storage depends on the written bytes and the reset they were written after, and on nothing else. -/
theorem readByte_congr {s t : State} (hm : t.mem = s.mem) (he : t.epoch = s.epoch) (u : UnitId) (a : Nat) :
    readByte t u a = readByte s u a := by simp only [readByte, hm, he]

theorem readByte_writeByte_self (s : State) (u : UnitId) (a : Nat) (b : Byte) : readByte (writeByte s u a b) u a = b := by
  simp [readByte, writeByte, memFind_memStore_self]

theorem readByte_writeByte_other (s : State) {u v : UnitId} {a a' : Nat} (b : Byte) (h : ¬(v = u ∧ a' = a)) :
    readByte (writeByte s u a b) v a' = readByte s v a' := by
  have hne : byteAddr v a' ≠ byteAddr u a := fun he => h (byteAddr_inj.mp he)
  simp [readByte, writeByte, memFind_memStore_other _ _ hne]

theorem readByte_writeWord_high (s : State) (u : UnitId) (off : Addr) (v : Word) :
    readByte (writeWord s u off v) u off.toNat = v.extractLsb' 8 8 := by
  unfold writeWord
  rw [readByte_writeByte_other _ _ (by omega), readByte_writeByte_self]

theorem readByte_writeWord_low (s : State) (u : UnitId) (off : Addr) (v : Word) :
    readByte (writeWord s u off v) u (off.toNat + 1) = v.extractLsb' 0 8 := by
  unfold writeWord
  rw [readByte_writeByte_self]

theorem readByte_writeWord_other (s : State) (u : UnitId) (off : Addr) (v : Word) {u' : UnitId} {a : Nat}
    (h : ¬(u' = u ∧ (a = off.toNat ∨ a = off.toNat + 1))) : readByte (writeWord s u off v) u' a = readByte s u' a := by
  unfold writeWord
  rw [readByte_writeByte_other _ _ (by tauto), readByte_writeByte_other _ _ (by tauto)]

/-- A word put into storage is the word read back. -/
theorem storedWord_writeWord (s : State) (u : UnitId) (off : Addr) (v : Word) :
    storedWord (writeWord s u off v) u off = v := by
  unfold storedWord
  rw [readByte_writeWord_high, readByte_writeWord_low]
  apply BitVec.eq_of_getLsbD_eq
  intro i hi
  simp only [BitVec.getLsbD_append, BitVec.getLsbD_extractLsb']
  by_cases h : i < 8
  · simp [h]
  · simp only [h, decide_false, Bool.false_and]
    have h1 : i - 8 < 8 := by omega
    have h2 : 8 + (i - 8) = i := by omega
    simp [h1, h2]

theorem writeByte_wf {s : State} (u : UnitId) (a : Nat) (b : Byte) (h : Memory.wf s.mem = true) :
    Memory.wf (writeByte s u a b).mem = true := memStore_wf _ _ _ h

/-- Every storage write keeps the canonical form. -/
theorem writeWord_wf {s : State} (u : UnitId) (off : Addr) (v : Word) (h : Memory.wf s.mem = true) :
    Memory.wf (writeWord s u off v).mem = true := writeByte_wf _ _ _ (writeByte_wf _ _ _ h)

theorem storeWrite_wf {s : State} (u : UnitId) (off : Addr) (w : Word32) (h : Memory.wf s.mem = true) :
    Memory.wf (storeWrite s u off w).mem = true := writeWord_wf _ _ _ h

/-- A byte that is kept whole, replaced whole, or merged bit by bit: one formula (20_memory.md R36). -/
theorem muxByte_eq (keep old new : Byte) : muxByte keep old new = (old &&& keep) ||| (new &&& ~~~keep) := by
  unfold muxByte
  split
  · next h =>
    have hn : ~~~(0#8) = BitVec.allOnes 8 := by decide
    rw [h, show (0 : Byte) = 0#8 from rfl, hn, BitVec.and_zero, BitVec.and_allOnes, BitVec.zero_or]
  · rfl

end Sys2Proof.Machine
end

