-- ==== Sys2Proof/Laws/Eeprom.lean ====
section
/-! SUPPORT. Laws/Eeprom.lean: lists of operations in two parts, and `EEW` as the drive it is. -/

namespace Sys2Proof.Machine

open Sys2Proof Sys2Proof.Safety

/-- A list of operations, its first part then its second. -/
theorem runOps_append (is js : List Instr) {s t : State} (h : runOps is s = .next t) : runOps (is ++ js) s = runOps js t := by
  induction is generalizing s with
  | nil =>
    cases h
    rfl
  | cons i rest ih =>
    simp only [runOps, List.cons_append] at h ⊢
    cases he : exec i s with
    | next u =>
      rw [he] at h
      exact ih h
    | fault f => rw [he] at h; cases h
    | refused r => rw [he] at h; cases h

/-- `EEW di, cs_n, clk` drives the three signals, chip-select inverted, in either layout. -/
theorem exec_eeWrite (l : Layout) (di csN clk : Bool) (s : State) :
    exec (eeWrite l di csN clk) s = .next (eeDrive s di (!csN) clk) := by
  cases l with
  | std =>
    change Host.Outcome.next (eeControl s .std _) = _
    rw [eeControl_of_effective s (by simp [eeEffective, wLaneHi_wordStore])]
    simp only [eeDiBit, eeCsBit, eeClkBit, getLsbD_wordStore]
    cases di <;> cases csN <;> cases clk <;> rfl
  | guw =>
    change Host.Outcome.next (eeControl s .guw _) = _
    rw [eeControl_of_effective s (by simp [eeEffective, wLaneLo_wordStore])]
    simp only [eeDiBit, eeCsBit, eeClkBit, getLsbD_wordStore]
    cases di <;> cases csN <;> cases clk <;> rfl

/-- One clocked bit: two drives. -/
theorem runOps_clockBit (l : Layout) (b : Bool) (s : State) :
    runOps (clockBit l b) s = .next (eeDrive (eeDrive s b false false) b false true) := by
  simp [clockBit, runOps, exec_eeWrite]

/-- One clocked bit, then the rest. -/
theorem runOps_clockIn_cons (l : Layout) (b : Bool) (bits : List Bool) (s : State) :
    runOps (clockIn l (b :: bits)) s = runOps (clockIn l bits) (eeDrive (eeDrive s b false false) b false true) :=
  runOps_append _ _ (runOps_clockBit l b s)

/-- What one clocked bit does to the reference core: chip-select released, the bit latched, one clock edge. -/
theorem eeDrive_clockBit (s : State) (b : Bool) (hk : s.cfg.eecore = .eeref) :
    (eeDrive (eeDrive s b false false) b false true).eeCore =
      { s.eeCore with
        nv := (eerefClockEdge s.eeCore.nv { s.eeCore.ref with di := b, cs := false, clk := true }).1
        ref := (eerefClockEdge s.eeCore.nv { s.eeCore.ref with di := b, cs := false, clk := true }).2 } := by
  simp [eeDrive_eq, hk, coreSetclk, coreSetcs, coreWrbit, eerefSetclk, eerefSetcs, eerefWrbit]

end Sys2Proof.Machine
end

