-- ==== Sys2Proof/Laws/Exec.lean ====
section
/-! SUPPORT. Laws/Exec.lean: what an operation can do, said once for all forty-five. -/

namespace Sys2Proof.Machine

open Sys2Proof Sys2Proof.Safety

/-- The states an operation can lead to, by the part of the block it acts on. -/
inductive Effect (s : State) (i : Instr) : State → Prop where
  /-- Nothing at all: the ignored writes. -/
  | nothing (hr : isRead i = false) (ha : alwaysEmits i = false) : Effect s i s
  /-- A read that answers a value. -/
  | answered (hr : isRead i = true) (v : Word) : Effect s i (s.answer v)
  /-- A read that answers a draw. -/
  | drawn (hr : isRead i = true) : Effect s i (readDraw s)
  /-- An event of the cause latch: some flags, then the line. -/
  | latched (hr : isRead i = false) (ha : alwaysEmits i = false) (v n u : Bool)
      (hu : u = true → s.unknownPending = true ∨ protoOf s.cfg.variant = .std) :
      Effect s i { s with vblankPending := v, soundPending := n, unknownPending := u, irqLine := v || n || u }
  /-- A cause-register read: at most a clear, then the line, then the value. -/
  | read (hr : isRead i = true) (v u : Bool) (hv : v = true → s.vblankPending = true)
      (hu : u = true → s.unknownPending = true) (ha : acknowledges i = false → v = s.vblankPending ∧ u = s.unknownPending)
      (r : Word) :
      Effect s i
        { s with vblankPending := v, unknownPending := u, irqLine := v || s.soundPending || u, rdata := some r }
  /-- A plain storage write. -/
  | stored (hs : storesToUnit i = true) (ha : alwaysEmits i = false) (u : UnitId) (off : Addr) (w : Word32) (hin : inUnit s.cfg u off = true) :
      Effect s i (storeWrite s u off w)
  /-- A storage write with its notice. -/
  | noticed (hs : storesToUnit i = true) (u : UnitId) (off : Addr) (w : Word32) (hin : inUnit s.cfg u off = true)
      (c : Call) (hc : emits i c = true) : Effect s i ((storeWrite s u off w).emit c)
  /-- A call and nothing else: the sound writes and EV.NVSAVE. -/
  | called (hr : isRead i = false) (c : Call) (hc : emits i c = true) : Effect s i (s.emit c)
  /-- An EEPROM control write. -/
  | driven (hd : i ≠ .evReset ∧ (∀ b, i ≠ .evNvload b) ∧ drivesEeprom i = true ∧ isRead i = false)
      (hc : ∃ off w, i = .wrEeStd off w ∨ i = .wrEeGuw off w) (di cs clk : Bool) : Effect s i (eeDrive s di cs clk)
  /-- EV.NVLOAD with an image. -/
  | loaded (hl : i = .evNvload true) (b : List Byte) (hb : b.length = s.cfg.nvBytes) : Effect s i (eeRestart s b)
  /-- EV.NVLOAD without an image. -/
  | zeroed (hl : i = .evNvload false) :
      Effect s i (eeRestart (s.emit .diagNvramInit) (List.replicate s.cfg.nvBytes 0x00))
  /-- EV.RESET. -/
  | restarted (hl : i = .evReset) : Effect s i (resetBlock s)
  /-- EV.RENDER. -/
  | displayed (hl : i = .evRender) (v : List UnitView) : Effect s i (s.display v)

/-- A storage write is no read. -/
theorem isRead_of_storesToUnit {i : Instr} (h : storesToUnit i = true) : isRead i = false := by
  cases i <;> first | rfl | cases h

theorem Effect.ofUnit {s : State} {i : Instr} {u : UnitId} {off : Addr} {t₀ t : State}
    (h : onUnit s.cfg u off t₀ = .next t) (he : inUnit s.cfg u off = true → Effect s i t₀) : Effect s i t := by
  obtain ⟨hin, rfl⟩ := onUnit_next.mp h
  exact he hin

theorem Effect.ofControl {s t : State} {i : Instr} {l : Layout} {w : Word32} (h : eeControl s l w = t)
    (hd : i ≠ .evReset ∧ (∀ b, i ≠ .evNvload b) ∧ drivesEeprom i = true ∧ isRead i = false)
    (hc : ∃ off w, i = .wrEeStd off w ∨ i = .wrEeGuw off w) : Effect s i t := by
  subst h
  rcases eeControl_cases s l w with h | ⟨di, cs, clk, h⟩ <;> rw [h]
  · exact .nothing hd.2.2.2 (by obtain ⟨off, w, rfl | rfl⟩ := hc <;> rfl)
  · exact .driven hd hc di cs clk

theorem Effect.ofSound {s t : State} {i : Instr} {w : Word32} {c : Call} (h : soundWrite s w c = t)
    (hr : isRead i = false) (hc : emits i c = true) (ha : alwaysEmits i = false) : Effect s i t := by
  subst h
  rcases soundWrite_cases s w c with h | h <;> rw [h]
  · exact .nothing hr ha
  · exact .called hr c hc

/-- Every operation that answers a next state has one of these effects. -/
theorem exec_effect {i : Instr} {s t : State} (h : exec i s = .next t) : Effect s i t := by
  cases i with
  | rdCauseStdAckv => cases h; exact .read rfl false _ (by simp) id (by simp [acknowledges]) _
  | rdCauseStdAcku => cases h; exact .read rfl _ false id (by simp) (by simp [acknowledges]) _
  | rdCauseStdPeek off => cases h; exact .read rfl _ _ id id (fun _ => ⟨rfl, rfl⟩) _
  | rdCauseStdOor off => cases h; exact .read rfl _ _ id id (fun _ => ⟨rfl, rfl⟩) _
  | rdCauseAltAckv => cases h; exact .read rfl false _ (by simp) id (by simp [acknowledges]) _
  | rdCauseAltPeek off => cases h; exact .read rfl _ _ id id (fun _ => ⟨rfl, rfl⟩) _
  | rdCauseAltOor off => cases h; exact .read rfl _ _ id id (fun _ => ⟨rfl, rfl⟩) _
  | rdInStdP0 => cases h; exact .answered rfl _
  | rdInStdP1e => cases h; exact .answered rfl _
  | rdInStdZero off => cases h; exact .answered rfl _
  | rdInGuwP0 => cases h; exact .answered rfl _
  | rdInGuwP1e => cases h; exact .answered rfl _
  | rdInGuwZero off => cases h; exact .answered rfl _
  | rdRom u off => exact .ofUnit h fun _ => .answered rfl _
  | rdRam u off => exact .ofUnit h fun _ => .answered rfl _
  | rdSpriteram u off => exact .ofUnit h fun _ => .answered rfl _
  | rdVram16 layer off => exact .ofUnit h fun _ => .answered rfl _
  | rdVram8 layer off => exact .ofUnit h fun _ => .answered rfl _
  | rdPalette u off => exact .ofUnit h fun _ => .answered rfl _
  | rdVideoregs u off => exact .ofUnit h fun _ => .answered rfl _
  | rdLayerctrl layer off => exact .ofUnit h fun _ => .answered rfl _
  | rdSndStatus off => cases h; exact .answered rfl _
  | rdUnmapped addr => cases h; exact .drawn rfl
  | rdRsvd bits => cases h; exact .drawn rfl
  | wrRom u off w => cases h; exact .nothing rfl rfl
  | wrRam u off w => exact .ofUnit h fun hin => .stored rfl rfl _ _ _ hin
  | wrSpriteram u off w => exact .ofUnit h fun hin => .stored rfl rfl _ _ _ hin
  | wrVram16 layer off w => exact .ofUnit h fun hin => .noticed rfl _ _ _ hin _ (by simp [emits])
  | wrVram8 layer off w => exact .ofUnit h fun hin => .noticed rfl _ _ _ hin _ (by simp [emits])
  | wrPalette u off w => exact .ofUnit h fun hin => .noticed rfl _ _ _ hin _ (by simp [emits])
  | wrVideoregs u off w => exact .ofUnit h fun hin => .stored rfl rfl _ _ _ hin
  | wrLayerctrl layer off w => exact .ofUnit h fun hin => .stored rfl rfl _ _ _ hin
  | wrSndReg off w => exact .ofSound (Host.Outcome.next.inj h) rfl (by simp [emits, wLowByte]) rfl
  | wrSndData off w => exact .ofSound (Host.Outcome.next.inj h) rfl (by simp [emits, wLowByte]) rfl
  | wrEeStd off w =>
    exact .ofControl (Host.Outcome.next.inj h) ⟨by simp, by simp, rfl, rfl⟩ ⟨off, w, .inl rfl⟩
  | wrEeGuw off w =>
    exact .ofControl (Host.Outcome.next.inj h) ⟨by simp, by simp, rfl, rfl⟩ ⟨off, w, .inr rfl⟩
  | wrUnmapped addr w => cases h; exact .nothing rfl rfl
  | wrRsvd bits w => cases h; exact .nothing rfl rfl
  | evReset => cases h; exact .restarted rfl
  | evVblank => cases h; exact .latched rfl rfl true s.soundPending s.unknownPending .inl
  | evSndirq active => cases h; exact .latched rfl rfl s.vblankPending active s.unknownPending .inl
  | evUnknown =>
    have h := Host.Outcome.next.inj h
    by_cases hp : protoOf s.cfg.variant = .std
    · rw [if_pos hp] at h
      subst h
      exact .latched rfl rfl s.vblankPending s.soundPending true fun _ => .inr hp
    · rw [if_neg hp] at h
      subst h
      exact .latched rfl rfl s.vblankPending s.soundPending s.unknownPending .inl
  | evRender => cases h; exact .displayed rfl _
  | evNvload hasImage =>
    change execEvNvload hasImage s = _ at h
    unfold execEvNvload at h
    cases hasImage with
    | false => cases h; exact .zeroed rfl
    | true =>
      simp only [if_true] at h
      split at h
      · next hl => cases h; exact .loaded rfl _ hl
      · cases h
  | evNvsave => cases h; exact .called rfl _ rfl

end Sys2Proof.Machine
end

