-- ==== Sys2Proof/Laws/Mux.lean ====
section
/-! SUPPORT. Laws/Mux.lean: the two cases of a lookup, and what a well-formed configuration says of the entry it finds. -/

namespace Sys2Proof.Machine

open Sys2Proof

theorem contains_iff {e : Entry} {addr : Addr} : contains e addr = true ↔ e.start ≤ addr.toNat ∧ addr.toNat ≤ e.stop := by
  simp [contains]

/-- A lookup finds an entry of the table that contains the address, or there is none. -/
theorem lookup_cases (tab : List Entry) (addr : Addr) :
    (∃ e ∈ tab, contains e addr = true
        ∧ lookup tab addr = ⟨e.kind, e.unit, BitVec.ofNat 24 (addr.toNat - e.start)⟩)
      ∨ ((∀ e ∈ tab, contains e addr = false) ∧ lookup tab addr = ⟨.unmapped, 0, addr⟩) := by
  induction tab with
  | nil => exact .inr ⟨by simp, rfl⟩
  | cons e rest ih =>
    unfold lookup
    cases h : contains e addr with
    | true => exact .inl ⟨e, by simp, h, by simp⟩
    | false =>
      rcases ih with ⟨e', he', hc, hl⟩ | ⟨hn, hl⟩
      · exact .inl ⟨e', by simp [he'], hc, by simp [hl]⟩
      · exact .inr ⟨by simpa [h] using hn, by simp [hl]⟩

/-- In a table without overlap, every address of an entry looks up to it. -/
theorem lookup_of_mem {tab : List Entry} (h : wf3 tab = true) {e : Entry} (he : e ∈ tab) {addr : Addr}
    (hc : contains e addr = true) : lookup tab addr = ⟨e.kind, e.unit, BitVec.ofNat 24 (addr.toNat - e.start)⟩ := by
  induction tab with
  | nil => cases he
  | cons x rest ih =>
    simp only [wf3, pairwise, Bool.and_eq_true, List.all_eq_true] at h
    unfold lookup
    rcases List.mem_cons.mp he with rfl | he
    · simp [hc]
    · have hd := h.1 e he
      have hx : contains x addr = false := by
        rw [contains_iff] at hc
        simp only [disjoint, Bool.or_eq_true, Nat.blt_eq] at hd
        rw [Bool.eq_false_iff, Ne, contains_iff]
        omega
      simpa [hx] using ih h.2 he

/-- The checks of one table, apart. -/
theorem wfTable_iff {c : Config} {allowed : RegionKind → Bool} {tab : List Entry} :
    wfTable c allowed tab = true ↔
      wf1 tab = true ∧ wf2 tab = true ∧ wf3 tab = true ∧ wf4 allowed tab = true ∧ wf5 c tab = true ∧ wf6 c tab = true
        ∧ wf7 tab = true ∧ wf8 c tab = true := by
  simp [wfTable, and_assoc]

/-- The first address of an entry of a well-formed table: it is even, and looks up to the entry at offset 0. -/
theorem lookup_start {c : Config} {allowed : RegionKind → Bool} {tab : List Entry} (h : wfTable c allowed tab = true)
    {e : Entry} (he : e ∈ tab) :
    ∃ addr : Addr, addr.getLsbD 0 = false ∧ lookup tab addr = ⟨e.kind, e.unit, 0⟩ := by
  obtain ⟨h1, h2, h3, _⟩ := wfTable_iff.mp h
  simp only [wf1, wf2, List.all_eq_true, Bool.and_eq_true, Nat.ble_eq, beq_iff_eq] at h1 h2
  have b1 := h1 e he
  have b2 := h2 e he
  have ht : (BitVec.ofNat 24 e.start).toNat = e.start := by
    rw [BitVec.toNat_ofNat]
    exact Nat.mod_eq_of_lt (by omega)
  refine ⟨BitVec.ofNat 24 e.start, ?_, ?_⟩
  · rw [BitVec.getLsbD, ht, Nat.testBit_zero, b2.1]
    rfl
  · rw [lookup_of_mem h3 he (contains_iff.mpr (by omega)), ht]
    simp

/-- The checks of a configuration, apart. -/
theorem configOk_iff {c : Config} :
    configOk c = true ↔
      wfTable c readable c.rtab = true ∧ wfTable c writable c.wtab = true ∧ wf9 c = true ∧ wfUnits c = true
        ∧ wfCore c = true := by
  simp [configOk, and_assoc]

/-- What the looked-up kind of a table that passes WF4 is. -/
theorem lookup_kind_allowed {allowed : RegionKind → Bool} {tab : List Entry} (addr : Addr)
    (h : wf4 allowed tab = true) : (lookup tab addr).kind = .unmapped ∨ allowed (lookup tab addr).kind = true := by
  rcases lookup_cases tab addr with ⟨e, he, _, hl⟩ | ⟨_, hl⟩
  · right
    rw [hl]
    simp only [wf4, List.all_eq_true] at h
    exact h e he
  · left
    rw [hl]

end Sys2Proof.Machine
end

