-- ==== Sys2Proof/Laws/PerInstr.lean ====
section
/-! SUPPORT. Laws/PerInstr.lean: families of statements made per operation. -/

namespace Sys2Proof.Laws

open Sys2Proof

/-- Does the operation have a row among the reads (1 to 24), the writes (25 to 38) or the events (39 to 45) of the
operation map (30_encoding.md R60): the two bits that its word must carry. -/
def kindBits (i : Instr) : BitVec 2 := if i.rowNumber ≤ 24 then 0 else if i.rowNumber ≤ 38 then 1 else 2

/-- The word of an operation carries the kind of its row in `T[31:30]` (30_encoding.md R50, R51). -/
def EncodedKind.Statement (i : Instr) : Prop := ∀ in1 : Addr, tKind (encode in1 i).t = kindBits i

theorem tKind_append (k : BitVec 2) (bits : BitVec 30) : tKind (k ++ bits) = k := by
  apply BitVec.eq_of_getLsbD_eq
  intro i hi
  have h : (k ++ bits).getLsbD (30 + i) = k.getLsbD i := by
    rw [BitVec.getLsbD_append]
    simp
  simpa [tKind, hi] using h

theorem EncodedKind.rdCauseStdAckv : EncodedKind.Statement .rdCauseStdAckv := fun _ => tKind_mkT _ _ _ _

theorem EncodedKind.rdCauseStdAcku : EncodedKind.Statement .rdCauseStdAcku := fun _ => tKind_mkT _ _ _ _

theorem EncodedKind.rdCauseStdPeek (off : Addr) : EncodedKind.Statement (.rdCauseStdPeek off) := fun _ => tKind_mkT _ _ _ _

theorem EncodedKind.rdCauseStdOor (off : Addr) : EncodedKind.Statement (.rdCauseStdOor off) := fun _ => tKind_mkT _ _ _ _

theorem EncodedKind.rdCauseAltAckv : EncodedKind.Statement .rdCauseAltAckv := fun _ => tKind_mkT _ _ _ _

theorem EncodedKind.rdCauseAltPeek (off : Addr) : EncodedKind.Statement (.rdCauseAltPeek off) := fun _ => tKind_mkT _ _ _ _

theorem EncodedKind.rdCauseAltOor (off : Addr) : EncodedKind.Statement (.rdCauseAltOor off) := fun _ => tKind_mkT _ _ _ _

theorem EncodedKind.rdInStdP0 : EncodedKind.Statement .rdInStdP0 := fun _ => tKind_mkT _ _ _ _

theorem EncodedKind.rdInStdP1e : EncodedKind.Statement .rdInStdP1e := fun _ => tKind_mkT _ _ _ _

theorem EncodedKind.rdInStdZero (off : Addr) : EncodedKind.Statement (.rdInStdZero off) := fun _ => tKind_mkT _ _ _ _

theorem EncodedKind.rdInGuwP0 : EncodedKind.Statement .rdInGuwP0 := fun _ => tKind_mkT _ _ _ _

theorem EncodedKind.rdInGuwP1e : EncodedKind.Statement .rdInGuwP1e := fun _ => tKind_mkT _ _ _ _

theorem EncodedKind.rdInGuwZero (off : Addr) : EncodedKind.Statement (.rdInGuwZero off) := fun _ => tKind_mkT _ _ _ _

theorem EncodedKind.rdRom (u : Nat) (off : Addr) : EncodedKind.Statement (.rdRom u off) := fun _ => tKind_mkT _ _ _ _

theorem EncodedKind.rdRam (u : Nat) (off : Addr) : EncodedKind.Statement (.rdRam u off) := fun _ => tKind_mkT _ _ _ _

theorem EncodedKind.rdSpriteram (u : Nat) (off : Addr) : EncodedKind.Statement (.rdSpriteram u off) := fun _ => tKind_mkT _ _ _ _

theorem EncodedKind.rdVram16 (layer : Nat) (off : Addr) : EncodedKind.Statement (.rdVram16 layer off) := fun _ => tKind_mkT _ _ _ _

theorem EncodedKind.rdVram8 (layer : Nat) (off : Addr) : EncodedKind.Statement (.rdVram8 layer off) := fun _ => tKind_mkT _ _ _ _

theorem EncodedKind.rdPalette (u : Nat) (off : Addr) : EncodedKind.Statement (.rdPalette u off) := fun _ => tKind_mkT _ _ _ _

theorem EncodedKind.rdVideoregs (u : Nat) (off : Addr) : EncodedKind.Statement (.rdVideoregs u off) := fun _ => tKind_mkT _ _ _ _

theorem EncodedKind.rdLayerctrl (layer : Nat) (off : Addr) : EncodedKind.Statement (.rdLayerctrl layer off) := fun _ => tKind_mkT _ _ _ _

theorem EncodedKind.rdSndStatus (off : Addr) : EncodedKind.Statement (.rdSndStatus off) := fun _ => tKind_mkT _ _ _ _

theorem EncodedKind.rdUnmapped (addr : Addr) : EncodedKind.Statement (.rdUnmapped addr) := fun _ => tKind_mkT _ _ _ _

theorem EncodedKind.rdRsvd (bits : BitVec 30) : EncodedKind.Statement (.rdRsvd bits) := fun _ => tKind_append _ _

theorem EncodedKind.wrRom (u : Nat) (off : Addr) (w : Word32) : EncodedKind.Statement (.wrRom u off w) := fun _ => tKind_mkT _ _ _ _

theorem EncodedKind.wrRam (u : Nat) (off : Addr) (w : Word32) : EncodedKind.Statement (.wrRam u off w) := fun _ => tKind_mkT _ _ _ _

theorem EncodedKind.wrSpriteram (u : Nat) (off : Addr) (w : Word32) : EncodedKind.Statement (.wrSpriteram u off w) := fun _ => tKind_mkT _ _ _ _

theorem EncodedKind.wrVram16 (layer : Nat) (off : Addr) (w : Word32) : EncodedKind.Statement (.wrVram16 layer off w) := fun _ => tKind_mkT _ _ _ _

theorem EncodedKind.wrVram8 (layer : Nat) (off : Addr) (w : Word32) : EncodedKind.Statement (.wrVram8 layer off w) := fun _ => tKind_mkT _ _ _ _

theorem EncodedKind.wrPalette (u : Nat) (off : Addr) (w : Word32) : EncodedKind.Statement (.wrPalette u off w) := fun _ => tKind_mkT _ _ _ _

theorem EncodedKind.wrVideoregs (u : Nat) (off : Addr) (w : Word32) : EncodedKind.Statement (.wrVideoregs u off w) := fun _ => tKind_mkT _ _ _ _

theorem EncodedKind.wrLayerctrl (layer : Nat) (off : Addr) (w : Word32) : EncodedKind.Statement (.wrLayerctrl layer off w) := fun _ => tKind_mkT _ _ _ _

theorem EncodedKind.wrSndReg (off : Addr) (w : Word32) : EncodedKind.Statement (.wrSndReg off w) := fun _ => tKind_mkT _ _ _ _

theorem EncodedKind.wrSndData (off : Addr) (w : Word32) : EncodedKind.Statement (.wrSndData off w) := fun _ => tKind_mkT _ _ _ _

theorem EncodedKind.wrEeStd (off : Addr) (w : Word32) : EncodedKind.Statement (.wrEeStd off w) := fun _ => tKind_mkT _ _ _ _

theorem EncodedKind.wrEeGuw (off : Addr) (w : Word32) : EncodedKind.Statement (.wrEeGuw off w) := fun _ => tKind_mkT _ _ _ _

theorem EncodedKind.wrUnmapped (addr : Addr) (w : Word32) : EncodedKind.Statement (.wrUnmapped addr w) := fun _ => tKind_mkT _ _ _ _

theorem EncodedKind.wrRsvd (bits : BitVec 30) (w : Word32) : EncodedKind.Statement (.wrRsvd bits w) := fun _ => tKind_append _ _

theorem EncodedKind.evReset : EncodedKind.Statement .evReset := fun _ => tKind_mkT _ _ _ _

theorem EncodedKind.evVblank : EncodedKind.Statement .evVblank := fun _ => tKind_mkT _ _ _ _

theorem EncodedKind.evSndirq (active : Bool) : EncodedKind.Statement (.evSndirq active) := fun _ => tKind_mkT _ _ _ _

theorem EncodedKind.evUnknown : EncodedKind.Statement .evUnknown := fun _ => tKind_mkT _ _ _ _

theorem EncodedKind.evRender : EncodedKind.Statement .evRender := fun _ => tKind_mkT _ _ _ _

theorem EncodedKind.evNvload (hasImage : Bool) : EncodedKind.Statement (.evNvload hasImage) := fun _ => tKind_mkT _ _ _ _

theorem EncodedKind.evNvsave : EncodedKind.Statement .evNvsave := fun _ => tKind_mkT _ _ _ _

end Sys2Proof.Laws
end

