-- ==== Sys2Proof/Laws/Place.lean ====
section
/-! SUPPORT. Laws/Place.lean: in a well-formed configuration a looked-up access to storage lies inside its unit
(45_storage_and_sound.md R155: "which WF2 and WF6 ... guarantee"). -/

namespace Sys2Proof.Machine

open Sys2Proof Sys2Proof.Safety

theorem even_toNat {a : Addr} (h : a.getLsbD 0 = false) : a.toNat % 2 = 0 := by
  have h1 : a.toNat.testBit 0 = false := h
  rw [Nat.testBit_zero] at h1
  simpa using h1

theorem inUnit_of {c : Config} {u : UnitId} {o : Addr} {n : Nat} (hs : unitSize c.units u = some n)
    (h : o.toNat + 1 < n) : inUnit c u o = true := by simp [inUnit, hs, h]

/-- An even offset masked with `2^k - 1`, k at least 1, is below the mask. -/
theorem masked_lt {m o : Addr} (hm : maskOk m = true) (ho : o.toNat % 2 = 0) : (o &&& m).toNat < m.toNat := by
  simp only [maskOk, List.any_eq_true, List.mem_range, beq_iff_eq] at hm
  obtain ⟨k, _, he⟩ := hm
  have h2 : m.toNat = 2 ^ (k + 1) - 1 := by omega
  have hp : 2 ^ (k + 1) = 2 * 2 ^ k := by rw [Nat.pow_succ, Nat.mul_comm]
  have h1 : 0 < 2 ^ k := Nat.two_pow_pos k
  rw [BitVec.toNat_and, h2, Nat.and_two_pow_sub_one_eq_mod]
  have h3 : o.toNat % 2 ^ (k + 1) < 2 ^ (k + 1) := Nat.mod_lt _ (by omega)
  have h4 : o.toNat % 2 ^ (k + 1) % 2 = o.toNat % 2 := Nat.mod_mod_of_dvd _ ⟨2 ^ k, hp⟩
  omega

/-- The place a looked-up even address names is inside its unit. -/
theorem lookup_inUnit {c : Config} {tab : List Entry} {addr : Addr} {u : UnitId} {o : Addr} (h1 : wf1 tab = true)
    (h2 : wf2 tab = true) (h6 : wf6 c tab = true) (ha : addr.getLsbD 0 = false)
    (hp : storagePlace c (lookup tab addr) = some (u, o)) : inUnit c u o = true := by
  rcases lookup_cases tab addr with ⟨e, he, hc, hl⟩ | ⟨_, hl⟩
  · rw [hl] at hp
    simp only [storagePlace, Option.map_eq_some_iff, Prod.mk.injEq] at hp
    obtain ⟨v, hv, rfl, ho⟩ := hp
    rw [contains_iff] at hc
    simp only [wf1, wf2, wf6, List.all_eq_true, Bool.and_eq_true, beq_iff_eq, Nat.ble_eq] at h1 h2 h6
    have b1 := h1 e he
    have b2 := h2 e he
    have b6 := h6 e he
    have hev := even_toNat ha
    simp only [wf6Entry, hv] at b6
    cases hs : unitSize c.units v with
    | none => simp [hs] at b6
    | some n =>
      simp only [hs] at b6
      have hoff : (BitVec.ofNat 24 (addr.toNat - e.start)).toNat = addr.toNat - e.start := by
        rw [BitVec.toNat_ofNat]
        exact Nat.mod_eq_of_lt (Nat.lt_of_le_of_lt (Nat.sub_le _ _) addr.isLt)
      refine inUnit_of hs ?_
      by_cases hk : e.kind = .vram8
      · simp only [hk, if_true, Bool.and_eq_true, beq_iff_eq] at b6
        simp only [hk, if_true, mirrored] at ho
        have := masked_lt (o := BitVec.ofNat 24 (addr.toNat - e.start)) b6.1 (by rw [hoff]; omega)
        rw [ho] at this
        omega
      · simp only [hk, if_false, Nat.ble_eq] at b6
        simp only [hk, if_false] at ho
        rw [← ho, hoff]
        omega
  · rw [hl] at hp
    simp [storagePlace, entryUnit] at hp

end Sys2Proof.Machine
end

