-- ==== Sys2Proof/Laws/Step.lean ====
section
/-! SUPPORT. Laws/Step.lean: what a step is, inverted: it idles, or it takes the first presented operation and runs it. -/

namespace Sys2Proof.Machine

open Sys2Proof

/-- A step that answers a next state idled, or ran the operation presented first. -/
theorem step_cases {s t : State} (h : step s = .next t) :
    configOk s.cfg = true
      ∧ ((s.pending = [] ∧ t = s)
        ∨ ∃ p rest d i, s.pending = p :: rest ∧ resolve s.cfg p.form = .ok d ∧ decode s.cfg.guwIn1Off d = .ok i
          ∧ exec i (s.take p rest) = .next t) := by
  unfold step at h
  split at h
  · next hc =>
    refine ⟨hc, ?_⟩
    split at h
    · next hp => exact .inl ⟨hp, (Host.Outcome.next.inj h).symm⟩
    · next p rest hp =>
      split at h
      · cases h
      · next d hd =>
        split at h
        · cases h
        · next i hi => exact .inr ⟨p, rest, d, i, hp, hd, hi, h⟩
  · cases h

/-- A step at a state whose first presented operation resolves and decodes. -/
theorem step_of_decoded {s : State} {p : Presented} {rest : List Presented} {d : Txn} {i : Instr}
    (hc : configOk s.cfg = true) (hp : s.pending = p :: rest) (hd : resolve s.cfg p.form = .ok d)
    (hi : decode s.cfg.guwIn1Off d = .ok i) : step s = exec i (s.take p rest) := by
  simp [step, hc, hp, hd, hi]

end Sys2Proof.Machine
end

