-- ==== Sys2Proof/Tests/Slice0.lean ====
section
/-! SUPPORT. Tests/Slice0.lean: the model's own tests. Expected values are written out from the encoding tables of
30_encoding.md and from the vectors of 95_test_vectors.md (named T-… in the comments); the checks of a configuration each
refuse an ill-formed one; and for every statement with hypotheses a witness meets them. -/

namespace Sys2Proof.Tests

open Sys2Proof Sys2Proof.Machine Sys2Proof.Safety

/-- The next state, if there is one. -/
def out (r : Result) : Option State :=
  match r with
  | .next t => some t
  | .fault _ => none
  | .refused _ => none

/-- The state after reset with three flags and the line they make. -/
def flagged (v n u : Bool) : State :=
  { State.reset with vblankPending := v, soundPending := n, unknownPending := u, irqLine := v || n || u }

/-- What a cause operation leaves: value, flags, line. -/
def cause (r : Result) : Option (Option Word × Bool × Bool × Bool × Bool) :=
  (out r).map fun t => (t.rdata, t.vblankPending, t.soundPending, t.unknownPending, t.irqLine)

/-- The state after reset with the three latches. -/
def latched (di cs clk : Bool) : State := { State.reset with eeDi := di, eeCs := cs, eeClk := clk }

/-- What a control write leaves of the latches. -/
def pins (r : Result) : Option (Bool × Bool × Bool) := (out r).map fun t => (t.eeDi, t.eeCs, t.eeClk)

/-- The state after reset with one operation presented. -/
def presented (f : Form) (e : Env) : State := { State.reset with pending := [⟨f, e⟩] }

/-- The DDONPACH example, freshly reset. -/
def resetD : State := State.resetIn exmapD

/-- The state after reset with two stored bytes. -/
def holding (s : State) (u : UnitId) (off : Addr) (v : Word) : State := writeWord s u off v

/-! ## Decoding: one word for every row, written out from 30_encoding.md R60 -/

theorem test_decode_rd_cause_std_ackv : decodeTableWord 32 0x38000004 = some (.rdCauseStdAckv) := by decide

theorem test_decode_rd_cause_std_acku : decodeTableWord 32 0x38000006 = some (.rdCauseStdAcku) := by decide

theorem test_decode_rd_cause_std_peek : decodeTableWord 32 0x38000002 = some (.rdCauseStdPeek 2) := by decide

theorem test_decode_rd_cause_std_oor : decodeTableWord 32 0x38000008 = some (.rdCauseStdOor 8) := by decide

theorem test_decode_rd_cause_alt_ackv : decodeTableWord 32 0x3C000000 = some (.rdCauseAltAckv) := by decide

theorem test_decode_rd_cause_alt_peek : decodeTableWord 32 0x3C000004 = some (.rdCauseAltPeek 4) := by decide

theorem test_decode_rd_cause_alt_oor : decodeTableWord 32 0x3C000008 = some (.rdCauseAltOor 8) := by decide

theorem test_decode_rd_in_std_p0 : decodeTableWord 32 0x30000000 = some (.rdInStdP0) := by decide

theorem test_decode_rd_in_std_p1e : decodeTableWord 32 0x30000002 = some (.rdInStdP1e) := by decide

theorem test_decode_rd_in_std_zero : decodeTableWord 32 0x30000004 = some (.rdInStdZero 4) := by decide

theorem test_decode_rd_in_guw_p0 : decodeTableWord 32 0x34000000 = some (.rdInGuwP0) := by decide

theorem test_decode_rd_in_guw_p1e : decodeTableWord 32 0x34000002 = some (.rdInGuwP1e) := by decide

theorem test_decode_rd_in_guw_zero : decodeTableWord 32 0x34000006 = some (.rdInGuwZero 6) := by decide

theorem test_decode_rd_rom : decodeTableWord 32 0x04FFFFFE = some (.rdRom 0 0xFFFFFE) := by decide

theorem test_decode_rd_ram : decodeTableWord 32 0x08000010 = some (.rdRam 0 0x10) := by decide

theorem test_decode_rd_spriteram : decodeTableWord 32 0x0C000002 = some (.rdSpriteram 0 2) := by decide

theorem test_decode_rd_vram16 : decodeTableWord 32 0x10000104 = some (.rdVram16 0 0x104) := by decide

theorem test_decode_rd_vram8 : decodeTableWord 32 0x1400C008 = some (.rdVram8 0 0xC008) := by decide

theorem test_decode_rd_palette : decodeTableWord 32 0x18000020 = some (.rdPalette 0 0x20) := by decide

theorem test_decode_rd_videoregs : decodeTableWord 32 0x1C000002 = some (.rdVideoregs 0 2) := by decide

theorem test_decode_rd_layerctrl : decodeTableWord 32 0x20000004 = some (.rdLayerctrl 0 4) := by decide

theorem test_decode_rd_snd_status : decodeTableWord 32 0x24000002 = some (.rdSndStatus 2) := by decide

theorem test_decode_rd_unmapped : decodeTableWord 32 0x00E00000 = some (.rdUnmapped 0xE00000) := by decide

theorem test_decode_rd_rsvd : decodeTableWord 32 0x28000000 = some (.rdRsvd 0x28000000) := by decide

theorem test_decode_wr_rom : decodeTableWord 32 0x44000002 = some (.wrRom 0 2 0) := by decide

theorem test_decode_wr_ram : decodeTableWord 32 0x48000010 = some (.wrRam 0 0x10 0) := by decide

theorem test_decode_wr_spriteram : decodeTableWord 32 0x4C000002 = some (.wrSpriteram 0 2 0) := by decide

theorem test_decode_wr_vram16 : decodeTableWord 32 0x50000FFE = some (.wrVram16 0 0xFFE 0) := by decide

theorem test_decode_wr_vram8 : decodeTableWord 32 0x5400FFFE = some (.wrVram8 0 0xFFFE 0) := by decide

theorem test_decode_wr_palette : decodeTableWord 32 0x58000020 = some (.wrPalette 0 0x20 0) := by decide

theorem test_decode_wr_videoregs : decodeTableWord 32 0x5C000002 = some (.wrVideoregs 0 2 0) := by decide

theorem test_decode_wr_layerctrl : decodeTableWord 32 0x60000004 = some (.wrLayerctrl 0 4 0) := by decide

theorem test_decode_wr_snd_reg : decodeTableWord 32 0x64000004 = some (.wrSndReg 4 0) := by decide

theorem test_decode_wr_snd_data : decodeTableWord 32 0x64000002 = some (.wrSndData 2 0) := by decide

theorem test_decode_wr_ee_std : decodeTableWord 32 0x68000000 = some (.wrEeStd 0 0) := by decide

theorem test_decode_wr_ee_guw : decodeTableWord 32 0x6C000000 = some (.wrEeGuw 0 0) := by decide

theorem test_decode_wr_unmapped : decodeTableWord 32 0x40E00000 = some (.wrUnmapped 0xE00000 0) := by decide

theorem test_decode_wr_rsvd : decodeTableWord 32 0x70000000 = some (.wrRsvd 0x30000000 0) := by decide

theorem test_decode_ev_reset : decodeTableWord 32 0x80000000 = some (.evReset) := by decide

theorem test_decode_ev_vblank : decodeTableWord 32 0x84000000 = some (.evVblank) := by decide

theorem test_decode_ev_sndirq : decodeTableWord 32 0x88000001 = some (.evSndirq true) := by decide

theorem test_decode_ev_unknown : decodeTableWord 32 0x8C000000 = some (.evUnknown) := by decide

theorem test_decode_ev_render : decodeTableWord 32 0x90000000 = some (.evRender) := by decide

theorem test_decode_ev_nvload : decodeTableWord 32 0x94000001 = some (.evNvload true) := by decide

theorem test_decode_ev_nvsave : decodeTableWord 32 0x98000000 = some (.evNvsave) := by decide

/-- The write word travels beside the word, the unit index too. -/
theorem test_decode_operands : decode 2 ⟨0x50000104, 1, 0x00FF8900⟩ = .ok (.wrVram16 1 0x104 0x00FF8900) := by decide

/-- `T[25:24]` not zero is reserved, whatever the region (R61 (b)). -/
theorem test_decode_zero_bits :
    decodeTableWord 32 0x39000004 = some (.rdRsvd 0x39000004) ∧ decodeTableWord 32 0x4A000000 = some (.wrRsvd 0x0A000000 0) := by
  decide

theorem test_decode_reserved_kind : decodeTableWord 32 0xC0000000 = none := by decide

theorem test_decode_reserved_event : decodeTableWord 32 0x9C000000 = none := by decide

/-! ## The checks: the three example configurations pass, and each check refuses an ill-formed term -/

theorem test_exmap_a_ok : configOk exmapA = true := by decide +kernel

theorem test_exmap_g_ok : configOk exmapG = true := by decide +kernel

theorem test_exmap_d_ok : configOk exmapD = true := by decide +kernel

theorem test_wf1_refuses : wf1 [⟨0x1002, 0x1001, .ram, 0⟩] = false ∧ wf1 [⟨0xFFFFFE, 0x1000001, .ram, 0⟩] = false := by decide

theorem test_wf2_refuses : wf2 [⟨0x1001, 0x1003, .ram, 0⟩] = false ∧ wf2 [⟨0x1000, 0x1002, .ram, 0⟩] = false := by decide

theorem test_wf3_refuses : wf3 [⟨0x1000, 0x1FFF, .ram, 0⟩, ⟨0x1FFE, 0x2FFF, .ram, 1⟩] = false := by decide

theorem test_wf4_refuses :
    wf4 readable [⟨0x1000, 0x1001, .eepromStd, 0⟩] = false ∧ wf4 writable [⟨0x1000, 0x1003, .inputStd, 0⟩] = false
      ∧ wf4 readable [⟨0x1000, 0x1001, .unmapped, 0⟩] = false := by decide

theorem test_wf5_refuses :
    wf5 exmapA [⟨0x1000, 0x1007, .irqcauseAlt, 0⟩] = false ∧ wf5 exmapD [⟨0x1000, 0x1007, .irqcauseStd, 0⟩] = false
      ∧ wf5 exmapA [⟨0x1000, 0x1003, .inputGuw, 0⟩] = false ∧ wf5 exmapG [⟨0x1000, 0x1001, .eepromStd, 0⟩] = false
      ∧ wf5 exmapA [⟨0x1000, 0x1FFF, .vram16, 2⟩] = false ∧ wf5 exmapD [⟨0x1000, 0x1FFF, .vram16, 2⟩] = false := by decide

theorem test_wf6_refuses :
    wf6 exmapA [⟨0x100000, 0x101001, .ram, 0⟩] = false ∧ wf6 exmapA [⟨0x100000, 0x100FFF, .ram, 7⟩] = false
      ∧ wf6 { exmapD with vram8Mask := 0x3FFE } [⟨0x420000, 0x42FFFF, .vram8, 2⟩] = false := by decide

theorem test_wf7_refuses : wf7 [⟨0x1000, 0x1001, .ram, 0⟩, ⟨0x2000, 0x2001, .ram, 0⟩] = false := by decide

theorem test_wf8_refuses : wf8 exmapA [⟨0x800000, 0x800001, .inputStd, 0⟩] = false := by decide

theorem test_wf9_refuses : wf9 { exmapA with tileBytes := 0 } = false := by decide

/-- R127: the example maps contain what a variant routes; empty tables, or DDONPACH without its mirrored layer, do not. -/
theorem test_routes_variant :
    routesVariant exmapA = true ∧ routesVariant { exmapA with rtab := [], wtab := [] } = false
      ∧ routesVariant { exmapD with wtab := exmapA.wtab } = false
      ∧ routesVariant { exmapD with ddpMirrorLayer := 3 } = false := by decide +kernel

theorem test_wf_units_refuses :
    wfUnits { exmapA with units := [⟨⟨.ram, 0⟩, 3⟩] } = false ∧ wfUnits { exmapA with units := [⟨⟨.ram, 0⟩, 0⟩] } = false
      ∧ wfUnits { exmapA with units := [⟨⟨.ram, 0⟩, 2⟩, ⟨⟨.ram, 0⟩, 4⟩] } = false := by decide

theorem test_wf_core_refuses : wfCore { exmapA with nvBytes := 64 } = false := by decide

theorem test_instr_wf_refuses :
    Instr.wf 2 (.rdCauseStdPeek 4) = false ∧ Instr.wf 2 (.rdCauseStdOor 6) = false ∧ Instr.wf 2 (.rdInStdZero 2) = false
      ∧ Instr.wf 2 (.rdRam 0 1) = false ∧ Instr.wf 2 (.wrSndReg 2 0) = false ∧ Instr.wf 2 (.rdRsvd 0x08000000) = false := by
  decide

/-- An ill-formed configuration is refused before the first operation (44_dispatcher.md R122). -/
theorem test_step_refuses_config : out (step { State.reset with cfg := { exmapA with tileBytes := 0 } }) = none := by
  decide +kernel

/-! ## Single operations -/

/-- T-IRQ-8, T-IRQ-9: the value is formed before the clear. -/
theorem test_std_ackv :
    cause (exec .rdCauseStdAckv (flagged true false false)) = some (some 0x0002, false, false, false, false)
      ∧ cause (exec .rdCauseStdAckv (flagged true false true)) = some (some 0x0000, false, false, true, true) := by decide

/-- T-IRQ-14: the sound cause is invisible and not acknowledged. -/
theorem test_std_ackv_sound :
    cause (exec .rdCauseStdAckv (flagged false true false)) = some (some 0x0003, false, true, false, true) := by decide

/-- 41_irq_cause.md R75, example. -/
theorem test_std_acku :
    cause (exec .rdCauseStdAcku (flagged true false true)) = some (some 0x0000, true, false, false, true) := by decide

/-- 41_irq_cause.md R73, example. -/
theorem test_std_peek :
    cause (exec (.rdCauseStdPeek 0) (flagged true false true)) = some (some 0x0000, true, false, true, true) := by decide

/-- T-IRQ-18. -/
theorem test_std_oor :
    cause (exec (.rdCauseStdOor 8) (flagged true true true)) = some (some 0x0000, true, true, true, true) := by decide

/-- T-IRQ-24. -/
theorem test_alt_ackv :
    cause (exec .rdCauseAltAckv (flagged true true false)) = some (some 0x0006, false, true, false, true) := by decide

/-- T-IRQ-22: offset 4 does not acknowledge. -/
theorem test_alt_peek :
    cause (exec (.rdCauseAltPeek 4) (flagged true false false)) = some (some 0x0006, true, false, false, true) := by decide

/-- 41_irq_cause.md R72, examples: GUWANGE and DDONPACH. -/
theorem test_unknown :
    cause (exec .evUnknown { State.reset with cfg := exmapG }) = some (none, false, false, true, true)
      ∧ cause (exec .evUnknown resetD) = some (none, false, false, false, false) := by decide

/-- 41_irq_cause.md R71, example. -/
theorem test_sndirq :
    cause (exec (.evSndirq true) (flagged false false false)) = some (none, false, true, false, true)
      ∧ cause (exec (.evSndirq false) (flagged false true false)) = some (none, false, false, false, false) := by decide

/-- T-EE-2, T-EE-4, T-EE-5, T-EE-6. -/
theorem test_ee_std :
    pins (exec (.wrEeStd 0 0x00000E00) (latched false true false)) = some (true, false, true)
      ∧ pins (exec (.wrEeStd 0 0x00FF0000) (latched true false true)) = some (false, true, false)
      ∧ pins (exec (.wrEeStd 0 0x01000200) (latched true false true)) = some (true, false, true)
      ∧ pins (exec (.wrEeStd 0 0x0000F1FF) (latched false true false)) = some (false, true, false) := by decide

/-- T-EE-10, T-EE-11, T-EE-12, T-EE-14. -/
theorem test_ee_guw :
    pins (exec (.wrEeGuw 0 0x00800000) (latched false true false)) = some (false, true, false)
      ∧ pins (exec (.wrEeGuw 0 0x00000080) (latched false true false)) = some (true, true, false)
      ∧ pins (exec (.wrEeGuw 0 0xFF0000E0) (latched false true false)) = some (true, false, true)
      ∧ pins (exec (.wrEeGuw 0 0xFF00FF1F) (latched true false true)) = some (false, true, false) := by decide

/-- T-EE-24, T-EE-25: the ninth bit of ERASE 5 and of READ 5 through `Match`. -/
theorem test_eeref_match :
    (eerefMatch (List.replicate 128 0) { eerefInit with sr := [true, true, true, false, false, false, true, false, true], locked := false }).1
        = List.replicate 10 0 ++ [0xFF, 0xFF] ++ List.replicate 116 0
      ∧ (eerefMatch (List.replicate 10 0 ++ [0xBE, 0xEF]) { eerefInit with sr := [true, true, false, false, false, false, true, false, true] }).2.dout
        = 0x0BEEF := by decide

/-- T-IN-4, T-IN-5: with EEREF idle the output bit is 1; the bit is ORed. -/
theorem test_in_std :
    (out (exec .rdInStdP1e { State.reset with env := { Env.quiet with in1 := 0xF7FF } })).map (·.rdata) = some (some 0xFFFF)
      ∧ (out (exec .rdInStdP0 { State.reset with env := { Env.quiet with in0 := 0x1234 } })).map (·.rdata) = some (some 0x1234) := by
  decide

/-- T-IN-9: bit 7, and bit 11 stays 0. -/
theorem test_in_guw : (out (exec .rdInGuwP1e { State.reset with cfg := exmapG })).map (·.rdata) = some (some 0x0080) := by decide

/-- T-STO-2, T-STO-3, T-STO-4, T-STO-5. -/
theorem test_mux16 :
    mux16 0x1234 0x00FFAB00 = 0xAB34 ∧ mux16 0x1234 0xFF0000CD = 0x12CD ∧ mux16 0x1234 0xFFFF5678 = 0x1234
      ∧ mux16 0x1234 0x0F0FABCD = 0xA2C4 := by decide

/-- T-STO-10: the merged word and the notice. -/
theorem test_vram16 :
    (out (exec (.wrVram16 0 0x104 0x00FF8900) (holding State.reset (vramUnit 0) 0x104 0x4567))).map
        (fun t => (storedWord t (vramUnit 0) 0x104, t.trace)) = some (0x8967, [.dirtyTile 0 0x41]) := by decide +kernel

/-- T-STO-14, T-STO-15: the mirror. -/
theorem test_vram8 :
    (out (runOps [.wrVram8 2 0x4008 0x000000AA, .rdVram8 2 0xC008] resetD)).map (fun t => (t.rdata, t.trace)) =
      some (some 0x00AA, [.dirtyTile 2 2]) := by decide +kernel

/-- T-STO-18: the merged word is forwarded. -/
theorem test_palette :
    (out (exec (.wrPalette 0 0x20 0xFF000000) (holding State.reset (paletteUnit 0) 0x20 0x7FFF))).map
        (fun t => (storedWord t (paletteUnit 0) 0x20, t.trace)) = some (0x7F00, [.paletteWrite 0x20 0x7F00]) := by decide +kernel

/-- T-STO-20 and 45_storage_and_sound.md R135: ROM, high byte first. -/
theorem test_rom :
    (out (exec (.rdRom 0 0) State.reset)).map (·.rdata) = some (some 0x00FF)
      ∧ (out (exec (.rdRom 0 2) State.reset)).map (·.rdata) = some (some 0x1234) := by decide +kernel

/-- 45_storage_and_sound.md R138: `BE`, `EF` at offset and offset + 1. -/
theorem test_ram :
    (out (exec (.wrRam 0 0x10 0x0000BEEF) State.reset)).map (fun t => (readByte t (ramUnit 0) 0x10, readByte t (ramUnit 0) 0x11)) =
      some (0xBE, 0xEF) := by decide +kernel

/-- T-SND-2, T-SND-3. -/
theorem test_snd_data :
    (out (exec (.wrSndData 2 0x000000AB) State.reset)).map (·.trace) = some [.sndDataWrite 2 0xAB]
      ∧ (out (exec (.wrSndData 2 0xFF0000AB) State.reset)).map (·.trace) = some [] := by decide

/-- T-SND-4, T-SND-6. -/
theorem test_snd_reg :
    (out (exec (.wrSndReg 0 0x00001234) State.reset)).map (·.trace) = some [.sndRegWrite 0 0x34]
      ∧ (out (exec (.wrSndReg 0 0x00FF1200) State.reset)).map (·.trace) = some [] := by decide

/-- T-SND-8. -/
theorem test_snd_status :
    (out (exec (.rdSndStatus 2) { State.reset with env := { Env.quiet with sndStatus := 0xFF } })).map (·.rdata) = some (some 0x00FF) := by
  decide

/-- T-NV-1. -/
theorem test_nvload_none :
    (out (exec (.evNvload false) (latched true false true))).map (fun t => (t.eeCore.nv, t.trace, t.eeDi, t.eeCs, t.eeClk)) =
      some (List.replicate 128 0, [.diagNvramInit], false, true, false) := by decide

/-- T-NV-5: an image of 127 bytes is refused. -/
theorem test_nvload_length :
    out (exec (.evNvload true) { State.reset with env := { Env.quiet with image := List.replicate 127 0 } }) = none := by decide +kernel

/-- T-RST-1: flags, line. -/
theorem test_reset_flags :
    cause (exec .evReset (flagged true true true)) = some (none, false, false, false, false) := by decide

/-- T-RST-1: latches. -/
theorem test_reset_pins : pins (exec .evReset (latched true false true)) = some (false, true, false) := by decide

/-- P1 in miniature: the tick through the interface, and T-IRQ-8 through the tables. -/
theorem test_step_bus_read :
    (out (step { presented (listRd 0x600004) Env.quiet with vblankPending := true, irqLine := true })).map
        (fun t => (t.rdata, t.irqLine)) = some (some 0x0002, false) := by decide +kernel

/-- T-IRQ-20: with an 8-byte entry the address is unmapped, and nothing is acknowledged. -/
theorem test_step_unmapped :
    (out (step { presented (listRd 0x600008) Env.quiet with vblankPending := true, irqLine := true })).map
        (fun t => (t.draws, t.vblankPending, t.irqLine)) = some (1, true, true) := by decide +kernel

/-- 20_memory.md R34 and 30_encoding.md R61 (g): an odd address and event code 7 are refused. -/
theorem test_step_refuses :
    out (step (presented (.x 0x00600001 0) Env.quiet)) = none ∧ out (step (presented (.x 0x9C000000 0) Env.quiet)) = none := by
  decide +kernel

/-- withFetchWord presents the very next operation. -/
theorem test_fetch_word :
    (out (step (State.reset.withFetchWord 32 0x38000004))).map (·.rdata) = some (some 0x0003) := by decide +kernel

/-! ## Witnesses: for every statement with hypotheses, a case that meets them, each clause at a boundary -/

theorem witness_DecodeInvertsEncode :
    Instr.wf 2 (.rdRsvd 0x28000000) = true ∧ Instr.wf 2 (.wrRsvd 0x3FFFFFFE 0xFFFFFFFF) = true
      ∧ Instr.wf 2 (.rdCauseStdOor 8) = true ∧ Instr.wf 2 .rdInGuwP1e = true ∧ Instr.wf 2 (.wrRam 3 0xFFFFFE 0) = true := by decide

theorem witness_DecodedOperationKeepsItsWord :
    decode 2 ⟨0x38000004, 0, 0⟩ = .ok .rdCauseStdAckv ∧ tKind 0x38000004 ≠ 2
      ∧ decode 2 ⟨0x48000010, 0, 5⟩ = .ok (.wrRam 0 0x10 5) ∧ tKind 0x48000010 = 1 := by decide

theorem witness_EvenWordsDecodeWellFormed :
    decode 2 ⟨0x38000008, 0, 0⟩ = .ok (.rdCauseStdOor 8) ∧ (tKind 0x38000008 ≠ 2 → (0x38000008 : Word32).getLsbD 0 = false)
      ∧ decode 2 ⟨0x88000001, 0, 0⟩ = .ok (.evSndirq true) ∧ ¬(tKind 0x88000001 ≠ 2) := by decide

theorem witness_ReservedWordsAreRefused :
    tKind 0xFFFFFFFF = 3 ∧ tKind 0x9C000000 = 2 ∧ 7 ≤ (tCode 0x9C000000).toNat ∧ (tCode 0x9C000000).toNat = 7 := by decide

/-- A presented operation that resolves, decodes and runs; and a waiting block. -/
theorem witness_StepRunsDecodedOperation :
    configOk (presented (listEv 1 false) Env.quiet).cfg = true
      ∧ (presented (listEv 1 false) Env.quiet).pending = [⟨listEv 1 false, Env.quiet⟩]
      ∧ resolve exmapA (listEv 1 false) = .ok ⟨0x84000000, 0, 0⟩ ∧ decode 2 ⟨0x84000000, 0, 0⟩ = .ok .evVblank
      ∧ State.reset.pending = []
      ∧ (0x94000001 : Word32) = (2 : BitVec 2) ++ (5 : BitVec 4) ++ (0 : BitVec 25) ++ BitVec.ofBool true
      ∧ (0x98000000 : Word32) = (2 : BitVec 2) ++ (6 : BitVec 4) ++ (0 : BitVec 25) ++ BitVec.ofBool false :=
  ⟨test_exmap_a_ok, rfl, rfl, by decide, rfl, rfl, rfl⟩

theorem witness_EveryPresentedOperationCompletes :
    configOk exmapA = true
      ∧ Presentable (presented (listRd 0xFFFFFE) Env.quiet) 0x00FFFFFE 0 Env.quiet
      ∧ Presentable State.reset 0x88000001 0 Env.quiet
      ∧ Presentable State.reset 0x94000001 0 { Env.quiet with image := List.replicate 128 0 }
      ∧ ¬Presentable State.reset 0x94000001 0 Env.quiet ∧ ¬Presentable State.reset 0xC0000000 0 Env.quiet
      ∧ configOk { exmapA with tileBytes := 0 } = false := by
  refine ⟨test_exmap_a_ok, ?_, ?_, ?_, ?_, ?_, by decide +kernel⟩
  · change xBusZero 0x00FFFFFE = 0 ∧ (0 : Word32) = 0 ∧ (0x00FFFFFE : Word32).getLsbD 0 = false
    decide +kernel
  · change xEvent 0x88000001 < 7 ∧ xEventZero 0x88000001 = 0 ∧ (0 : Word32) = 0
      ∧ (hasArg (xEvent 0x88000001) = true ∨ (0x88000001 : Word32).getLsbD 0 = false)
      ∧ (xEvent 0x88000001 = 5 → (0x88000001 : Word32).getLsbD 0 = true → ([] : List Byte).length = 128)
    decide +kernel
  · change xEvent 0x94000001 < 7 ∧ xEventZero 0x94000001 = 0 ∧ (0 : Word32) = 0
      ∧ (hasArg (xEvent 0x94000001) = true ∨ (0x94000001 : Word32).getLsbD 0 = false)
      ∧ (xEvent 0x94000001 = 5 → (0x94000001 : Word32).getLsbD 0 = true → (List.replicate 128 (0 : Byte)).length = 128)
    decide +kernel
  · change ¬(xEvent 0x94000001 < 7 ∧ xEventZero 0x94000001 = 0 ∧ (0 : Word32) = 0
      ∧ (hasArg (xEvent 0x94000001) = true ∨ (0x94000001 : Word32).getLsbD 0 = false)
      ∧ (xEvent 0x94000001 = 5 → (0x94000001 : Word32).getLsbD 0 = true → ([] : List Byte).length = 128))
    decide +kernel
  · exact id

/-- The first and the last address of an entry, and an address of no entry. -/
theorem witness_DispatchSelectsFirstContainingEntry :
    exmapA.rtab = [⟨0x000000, 0x00FFFF, .rom, 0⟩] ++ ⟨0x100000, 0x100FFF, .ram, 0⟩ :: exmapA.rtab.drop 2
      ∧ exmapA.wtab = [⟨0x000000, 0x00FFFF, .rom, 0⟩] ++ ⟨0x100000, 0x100FFF, .ram, 0⟩ :: exmapA.wtab.drop 2
      ∧ contains ⟨0x000000, 0x00FFFF, .rom, 0⟩ 0x100000 = false ∧ contains ⟨0x100000, 0x100FFF, .ram, 0⟩ 0x100000 = true
      ∧ contains ⟨0x000000, 0x00FFFF, .rom, 0⟩ 0x100FFF = false ∧ contains ⟨0x100000, 0x100FFF, .ram, 0⟩ 0x100FFF = true
      ∧ (exmapA.rtab.all fun x => !contains x 0xE00000) = true ∧ (exmapA.wtab.all fun x => !contains x 0xE00000) = true :=
  ⟨rfl, rfl, rfl, rfl, rfl, rfl, rfl, rfl⟩

theorem witness_TableOrderIsUnobservable :
    wf3 [⟨0x1000, 0x1FFF, .ram, 0⟩, ⟨0x2000, 0x2FFF, .ram, 1⟩] = true
      ∧ List.Perm [(⟨0x1000, 0x1FFF, .ram, 0⟩ : Entry), ⟨0x2000, 0x2FFF, .ram, 1⟩]
        [⟨0x2000, 0x2FFF, .ram, 1⟩, ⟨0x1000, 0x1FFF, .ram, 0⟩] :=
  ⟨by decide, List.Perm.swap _ _ _⟩

/-- Two of the example configurations are well-formed and route what R127 lists; both VRAM kinds are reached at a last word. -/
theorem witness_WellFormedConfigSelectsTheVariantsRows :
    configOk exmapG = true ∧ routesVariant exmapG = true ∧ configOk exmapD = true ∧ routesVariant exmapD = true
      ∧ (lookup exmapD.wtab 0x42FFFE).kind = .vram8 ∧ (lookup exmapD.rtab 0x410FFE).kind = .vram16 := by
  refine ⟨test_exmap_g_ok, ?_, test_exmap_d_ok, ?_, ?_, ?_⟩ <;> decide +kernel

theorem witness_StepTakesOneOperationAndKeepsTheConfiguration :
    (presented (listEv 1 false) Env.quiet).pending = [⟨listEv 1 false, Env.quiet⟩]
      ∧ (out (step (presented (listEv 1 false) Env.quiet))).isSome = true := ⟨rfl, by decide +kernel⟩

theorem witness_TraceGrowsByAtMostOneCall :
    (∃ t, exec .evNvsave State.reset = .next t ∧ t.trace ≠ State.reset.trace)
      ∧ ∃ t, exec (.wrSndReg 0 0x00010000) State.reset = .next t ∧ t.trace = State.reset.trace :=
  ⟨⟨_, rfl, by simp [State.emit, State.reset, State.resetIn]⟩, _, rfl, rfl⟩

theorem witness_UnknownSourceSetsItsFlagOnlyInStd :
    protoOf State.reset.cfg.variant = .std ∧ protoOf resetD.cfg.variant = .alt := by decide

theorem witness_CauseReadsBeyondTheWindowReturnZero :
    evenOff 8 = true ∧ 8 ≤ (8 : Addr).toNat ∧ evenOff 0xFFFFFE = true ∧ 8 ≤ (0xFFFFFE : Addr).toNat := by decide

/-- Each flag changed, in both directions where two clauses stand. -/
theorem witness_OnlyTheNamedOperationsChangeAFlag :
    cause (exec .evVblank (flagged false false false)) = some (none, true, false, false, true)
      ∧ cause (exec .rdCauseAltAckv (flagged true false false)) = some (some 0x0006, false, false, false, false)
      ∧ cause (exec .evReset (flagged true true true)) = some (none, false, false, false, false)
      ∧ cause (exec .evUnknown (flagged false false false)) = some (none, false, false, true, true)
      ∧ cause (exec .rdCauseStdAcku (flagged false false true)) = some (some 0x0001, false, false, false, false) := by
  refine ⟨?_, ?_, ?_, ?_, ?_⟩ <;> decide

theorem witness_LineIsTheOrOfTheFlags :
    LineAgrees (flagged true false true)
      ∧ cause (exec .rdCauseStdAckv (flagged true false true)) = some (some 0x0000, false, false, true, true) := by decide

theorem witness_OtherReadsChangeNothing :
    isRead (.rdCauseStdPeek 2) = true ∧ acknowledges (.rdCauseStdPeek 2) = false ∧ LineAgrees (flagged true false false)
      ∧ (out (exec (.rdCauseStdPeek 2) (flagged true false false))).isSome = true := by decide

theorem witness_SoundFlagIsInvisible :
    (out (exec (.rdCauseStdPeek 0) (flagged false true false))).isSome = true := by decide

theorem witness_AcknowledgeDropsTheVblankLine :
    (flagged true false false).soundPending = false ∧ (flagged true false false).unknownPending = false := by decide

theorem witness_StandardControlWriteDrivesTheThreeSignals :
    (0x00FFFFFF : Word32).extractLsb' 24 8 = 0 ∧ (0x01000200 : Word32).extractLsb' 24 8 ≠ 0 := by decide

theorem witness_GuwangeControlWriteDrivesTheThreeSignals :
    (0xFF00FFFF : Word32).extractLsb' 16 8 = 0 ∧ (0x00010000 : Word32).extractLsb' 16 8 ≠ 0 := by decide

theorem witness_EepromChangesOnlyThroughItsSignals :
    drivesEeprom .rdInStdP1e = false ∧ (out (exec .rdInStdP1e State.reset)).isSome = true := by decide

/-- Two writes that keep the clock low, one of them asserting chip-select. -/
theorem witness_NoEdgeWithoutAClockChange :
    State.reset.cfg.eecore = .eeref
      ∧ (∀ p ∈ [(Layout.std, (0x00000A00 : Word32)), (.guw, 0x00000000)], eeClkBit p.1 p.2 = State.reset.eeClk)
      ∧ (out (runOps [.wrEeStd 0 0x00000A00, .wrEeGuw 0 0x00000000] State.reset)).isSome = true := by decide +kernel

theorem witness_EerefChipSelectResetsTheInterface :
    State.reset.cfg.eecore = .eeref
      ∧ (0x00FFFDFF : Word32).extractLsb' 24 8 = 0 ∧ (0x00FFFDFF : Word32).getLsbD 9 = false
      ∧ (0xFF00FFDF : Word32).extractLsb' 16 8 = 0 ∧ (0xFF00FFDF : Word32).getLsbD 5 = false := by decide +kernel

/-- An idle core, locked as after reset. -/
theorem witness_eeref_idle_locked : EerefIdle State.reset ∧ State.reset.eeCore.ref.locked = true :=
  ⟨⟨rfl, by simp [State.reset, State.resetIn, coreInit, drawnNv, exmapA], rfl, rfl⟩, rfl⟩

/-- An idle core with writes enabled. -/
def unlocked : State :=
  { State.reset with eeCore := { nv := List.replicate 128 0, ref := { eerefInit with locked := false }, serial := 0 } }

/-- For EerefWriteStoresTheWord, EerefEraseLockAndAllCommands and EerefReadShiftsOutTheWord; word 63 is not word 0. -/
theorem witness_eeref_idle_unlocked :
    EerefIdle unlocked ∧ unlocked.eeCore.ref.locked = false ∧ (63 : BitVec 6) ≠ 0 := by decide +kernel

/-- One bit short of ERASE 0, the clock low, chip-select released. -/
def almostErased : State :=
  { unlocked with
    eeCs := false
    eeCore :=
      { nv := List.replicate 128 0
        ref := { eerefInit with sr := [true, true, true, false, false, false, false, false], locked := false, cs := false }
        serial := 0 } }

theorem witness_EerefArrayChangesOnlyOnTheLastClock :
    almostErased.cfg.eecore = .eeref ∧ almostErased.eeCore.ref.sr.length = 8
      ∧ (out (exec (.wrEeStd 0 0x00000600) almostErased)).map (fun t => decide (t.eeCore.nv = almostErased.eeCore.nv)) = some false := by
  decide +kernel

theorem witness_StandardInputReads : (4 : Addr) ≠ 0 ∧ (4 : Addr) ≠ 2 := by decide

theorem witness_GuwangeInputReads : (2 : Addr) ≠ 0 ∧ (6 : Addr) ≠ 0 ∧ (6 : Addr) ≠ 2 := by decide

theorem witness_MergeIsPerBit : 15 < 16 := by decide

theorem witness_RomReadsItsConstantAndIgnoresWrites : inUnit exmapA (romUnit 0) 0xFFFE = true := by decide +kernel

/-- The last word of a unit of each kind is inside it: for the reads, the plain, VRAM and palette writes, and the byte
stores. -/
theorem witness_storage_inside :
    inUnit exmapA (ramUnit 0) 0xFFE = true ∧ inUnit exmapA (spriteUnit 0) 0xFFE = true
      ∧ inUnit exmapA (vramUnit 1) 0xFFE = true ∧ inUnit exmapA (paletteUnit 0) 0x1FE = true
      ∧ inUnit exmapA (videoUnit 0) 0x7E = true ∧ inUnit exmapA (lctrlUnit 1) 4 = true := by decide +kernel

/-- The next word is not: for StorageOutsideTheUnitIsRefused. -/
theorem witness_StorageOutsideTheUnitIsRefused :
    inUnit exmapA (romUnit 0) 0x10000 = false ∧ inUnit exmapA (ramUnit 0) 0x1000 = false
      ∧ inUnit exmapA (spriteUnit 0) 0x1000 = false ∧ inUnit exmapA (vramUnit 1) 0x1000 = false
      ∧ inUnit exmapA (vramUnit 2) (0x4008 &&& 0x3FFF) = false ∧ inUnit exmapA (paletteUnit 0) 0x200 = false
      ∧ inUnit exmapA (videoUnit 0) 0x80 = false ∧ inUnit exmapA (lctrlUnit 1) 6 = false := by decide +kernel

/-- For the mirrored reads and writes: the last offset of the 64 KiB window is the last word of the unit. -/
theorem witness_mirrored_inside : inUnit resetD.cfg (vramUnit 2) (0xFFFE &&& resetD.cfg.vram8Mask) = true := by decide +kernel

theorem witness_MirrorsAreTheSameStorage : maskOk 0x3FFF = true ∧ maskOk 1 = true ∧ maskOk 0xFFFFFF = true := by decide

theorem witness_StorageChangesOnlyByStorageWrites :
    storesToUnit (.wrSndReg 0 0) = false ∧ Instr.wrSndReg 0 0 ≠ .evReset
      ∧ (out (exec (.wrSndReg 0 0) State.reset)).isSome = true := by decide

/-- A linear layer, and a mirrored one through two mirrors. -/
theorem witness_BusStoreThenReadReturnsTheWord :
    configOk exmapA = true ∧ storagePlace exmapA (lookup exmapA.wtab 0x400104) = some (vramUnit 0, 0x104)
      ∧ storagePlace exmapA (lookup exmapA.rtab 0x400104) = some (vramUnit 0, 0x104)
      ∧ (vramUnit 0).kind ≠ .rom ∧ (0x400104 : Addr).getLsbD 0 = false
      ∧ configOk exmapD = true ∧ storagePlace exmapD (lookup exmapD.wtab 0x424008) = some (vramUnit 2, 8)
      ∧ storagePlace exmapD (lookup exmapD.rtab 0x42C008) = some (vramUnit 2, 8) := by
  refine ⟨test_exmap_a_ok, ?_, ?_, ?_, ?_, test_exmap_d_ok, ?_, ?_⟩ <;> decide +kernel

theorem witness_UnmappedWritesDoNothing :
    ∀ x ∈ exmapA.wtab, ¬(x.start ≤ (0x800002 : Addr).toNat ∧ (0x800002 : Addr).toNat ≤ x.stop) := by decide +kernel

theorem witness_ResetLeavesTheNamedState : State.reset.cfg.eecore = .eeref := rfl

theorem witness_NvloadReplacesTheArray :
    (List.replicate 128 (0 : Byte)).length = exmapA.nvBytes ∧ (List.replicate 129 (0 : Byte)).length ≠ exmapA.nvBytes := by
  decide +kernel

theorem witness_SaveThenLoadRestoresTheArray :
    ArrayWhole unlocked ∧ resetD.cfg.nvBytes = unlocked.cfg.nvBytes
      ∧ (out (exec .evNvsave unlocked)).map (·.trace) = some (unlocked.trace ++ [.nvSaveImage (List.replicate 128 0)]) := by
  decide +kernel

/-- The invariant holds of a state with an operation presented, and that operation completes. -/
theorem witness_EveryStepKeepsTheInvariant :
    Inv (presented (listEv 1 false) Env.quiet) ∧ (out (step (presented (listEv 1 false) Env.quiet))).isSome = true :=
  ⟨⟨rfl, rfl, fun _ => rfl, by simp [presented, ArrayWhole, State.reset, State.resetIn, coreInit, drawnNv, exmapA],
    fun _ => ⟨rfl, rfl, rfl⟩,
    fun _ => ⟨by decide, fun h => absurd rfl h, fun h => absurd h (by decide), fun _ => rfl, fun _ => ⟨rfl, rfl⟩⟩⟩,
    by decide +kernel⟩

end Sys2Proof.Tests
end

section
/-! SUPPORT. Which steps complete (00_scope.md R5): an operation completes if the storage it names lies inside its unit and the
image it announces is whole; the boundary and the dispatcher guarantee the first, `Presentable` demands the second. -/

namespace Sys2Proof.Machine

open Sys2Proof Sys2Proof.Safety

/-! ## One operation -/

/-- The place in storage that an operation's operands name, after the mirror (45_storage_and_sound.md R135 to R151):
`storagePlace` of the looked-up access it came from, as `operandPlace_decodeRead` and `operandPlace_decodeWrite` say. -/
def operandPlace (c : Config) : Instr → Option (UnitId × Addr)
  | .rdRom u off | .wrRom u off _ => some (romUnit u, off)
  | .rdRam u off | .wrRam u off _ => some (ramUnit u, off)
  | .rdSpriteram u off | .wrSpriteram u off _ => some (spriteUnit u, off)
  | .rdVram16 layer off | .wrVram16 layer off _ => some (vramUnit layer, off)
  | .rdVram8 layer off | .wrVram8 layer off _ => some (vramUnit layer, mirrored c off)
  | .rdPalette u off | .wrPalette u off _ => some (paletteUnit u, off)
  | .rdVideoregs u off | .wrVideoregs u off _ => some (videoUnit u, off)
  | .rdLayerctrl layer off | .wrLayerctrl layer off _ => some (lctrlUnit layer, off)
  | _ => none

/-- EV.NVLOAD replaces the array by an image of `NV_BYTES` bytes (46_nvram_host.md R160). -/
theorem exec_evNvload_of_image {s : State} (h : s.env.image.length = s.cfg.nvBytes) :
    exec (.evNvload true) s = .next (eeRestart s s.env.image) := if_pos h

/-- Bytes of any other number are no image (46_nvram_host.md R160). -/
theorem exec_evNvload_of_badImage {s : State} (h : s.env.image.length ≠ s.cfg.nvBytes) :
    exec (.evNvload true) s = .refused .imageLength := if_neg h

/-- Nothing but a place outside its unit or an image of the wrong length keeps an operation from completing. -/
theorem exec_completes {i : Instr} {s : State}
    (hplace : ∀ u off, operandPlace s.cfg i = some (u, off) → inUnit s.cfg u off = true)
    (himage : i = .evNvload true → s.env.image.length = s.cfg.nvBytes) : ∃ t, exec i s = .next t := by
  cases i with
  | rdRom u off | rdRam u off | rdSpriteram u off | rdVram16 u off | rdVram8 u off | rdPalette u off | rdVideoregs u off
  | rdLayerctrl u off => exact ⟨_, onUnit_of_inside _ (hplace _ _ rfl)⟩
  | wrRam u off w | wrSpriteram u off w | wrVram16 u off w | wrVram8 u off w | wrPalette u off w | wrVideoregs u off w
  | wrLayerctrl u off w => exact ⟨_, onUnit_of_inside _ (hplace _ _ rfl)⟩
  | evNvload hasImage =>
    cases hasImage with
    | false => exact ⟨_, rfl⟩
    | true => exact ⟨_, exec_evNvload_of_image (himage rfl)⟩
  | _ => exact ⟨_, rfl⟩

/-! ## The operations the dispatcher and the event map give -/

/-- A decoded read names the place its looked-up access reaches. -/
theorem operandPlace_decodeRead (c : Config) (in1 : Addr) (h : Hit) :
    operandPlace c (decodeRead in1 (readTxn h.kind h.unit h.off)) = storagePlace c h := by
  obtain ⟨k, u, off⟩ := h
  simp only [decodeRead, readTxn, tCode_mkT, tOff_mkT, regionOfCode_code]
  cases k with
  | inputStd | inputGuw | irqcauseStd | irqcauseAlt => dsimp only; split_ifs <;> rfl
  | _ => rfl

/-- A decoded write names the place its looked-up access reaches. -/
theorem operandPlace_decodeWrite (c : Config) (h : Hit) (w : Word32) :
    operandPlace c (decodeWrite (writeTxn h.kind h.unit h.off w)) = storagePlace c h := by
  obtain ⟨k, u, off⟩ := h
  simp only [decodeWrite, writeTxn, tCode_mkT, tOff_mkT, regionOfCode_code]
  cases k with
  | sound => dsimp only; split_ifs <;> rfl
  | _ => rfl

/-- No read is an event. -/
theorem decodeRead_ne_evNvload (in1 : Addr) (d : Txn) (b : Bool) : decodeRead in1 d ≠ .evNvload b := by
  unfold decodeRead
  cases regionOfCode (tCode d.t) with
  | inputStd | inputGuw | irqcauseStd | irqcauseAlt => dsimp only; split_ifs <;> nofun
  | _ => nofun

/-- No write is an event. -/
theorem decodeWrite_ne_evNvload (d : Txn) (b : Bool) : decodeWrite d ≠ .evNvload b := by
  unfold decodeWrite
  cases regionOfCode (tCode d.t) with
  | sound => dsimp only; split_ifs <;> nofun
  | _ => nofun

/-- Event codes 0 to 6 all have an event; none of them names storage, and code 5 with argument 1 is the one that announces an
image (30_encoding.md R53). -/
theorem decodeEvent_of_lt {t : Word32} (h : (tCode t).toNat < 7) :
    ∃ i, decodeEvent t = .ok i ∧ (∀ c, operandPlace c i = none)
      ∧ (i = .evNvload true ↔ (tCode t).toNat = 5 ∧ t.getLsbD 0 = true) := by
  have hcodes : (tCode t).toNat = 0 ∨ (tCode t).toNat = 1 ∨ (tCode t).toNat = 2 ∨ (tCode t).toNat = 3 ∨ (tCode t).toNat = 4
      ∨ (tCode t).toNat = 5 ∨ (tCode t).toNat = 6 := by omega
  rcases hcodes with hn | hn | hn | hn | hn | hn | hn
  all_goals
    simp only [decodeEvent, hn]
    exact ⟨_, rfl, fun _ => rfl, by simp⟩

/-- An event word goes to the event map. -/
theorem decode_event {in1 : Addr} {a : Word32} (h : (xKind a).toNat = 2) : decode in1 ⟨a, 0, 0⟩ = decodeEvent a := by
  have hk : (tKind a).toNat = 2 := h
  simp [decode, hk]

/-! ## One presented pair, by its kind -/

/-- A step refuses what the boundary refuses. -/
theorem step_of_unresolved {s : State} {p : Presented} {rest : List Presented} {r : Refusal} (hc : configOk s.cfg = true)
    (hp : s.pending = p :: rest) (hr : resolve s.cfg p.form = .error r) : step s = .refused r := by
  simp [step, hc, hp, hr]

/-- A step refuses an ill-formed configuration, whatever is presented. -/
theorem step_of_illFormed {s : State} (hc : configOk s.cfg = false) : step s = .refused .illFormedConfig := by
  simp [step, hc]

/-- A read whose zero bits and write word are zero, at an even address, goes to the read table. -/
theorem resolveX_read {c : Config} {a w : Word32} (hk : (xKind a).toNat = 0) (hz : xBusZero a = 0 ∧ w = 0)
    (heven : a.getLsbD 0 = false) : resolveX c a w = .ok (busRead c (xAddr a)) := by
  simp only [resolveX, hk, if_pos hz, if_neg (Bool.eq_false_iff.mp heven)]

/-- The boundary refuses every other read (30_encoding.md R50; 20_memory.md R34). -/
theorem resolveX_read_error {c : Config} {a w : Word32} (hk : (xKind a).toNat = 0)
    (hn : ¬(xBusZero a = 0 ∧ w = 0 ∧ a.getLsbD 0 = false)) : ∃ r, resolveX c a w = .error r := by
  simp only [resolveX, hk]
  split_ifs with hz hodd
  · exact ⟨_, rfl⟩
  · exact absurd ⟨hz.1, hz.2, Bool.eq_false_iff.mpr hodd⟩ hn
  · exact ⟨_, rfl⟩

/-- A write whose zero bits are zero, at an even address, goes to the write table. -/
theorem resolveX_write {c : Config} {a w : Word32} (hk : (xKind a).toNat = 1) (hz : xBusZero a = 0)
    (heven : a.getLsbD 0 = false) : resolveX c a w = .ok (busWrite c (xAddr a) w) := by
  simp only [resolveX, hk, if_pos hz, if_neg (Bool.eq_false_iff.mp heven)]

/-- The boundary refuses every other write (30_encoding.md R50; 20_memory.md R34). -/
theorem resolveX_write_error {c : Config} {a w : Word32} (hk : (xKind a).toNat = 1)
    (hn : ¬(xBusZero a = 0 ∧ a.getLsbD 0 = false)) : ∃ r, resolveX c a w = .error r := by
  simp only [resolveX, hk]
  split_ifs with hz hodd
  · exact ⟨_, rfl⟩
  · exact absurd ⟨hz, Bool.eq_false_iff.mpr hodd⟩ hn
  · exact ⟨_, rfl⟩

section
variable {s : State} {a w : Word32} {e : Env} {rest : List Presented}

/-- A step completes if the operation it takes names storage inside its unit and has the image it announces. -/
theorem step_completes {d : Txn} {i : Instr} (hc : configOk s.cfg = true) (hp : s.pending = ⟨.x a w, e⟩ :: rest)
    (hd : resolveX s.cfg a w = .ok d) (hi : decode s.cfg.guwIn1Off d = .ok i)
    (hplace : ∀ u off, operandPlace s.cfg i = some (u, off) → inUnit s.cfg u off = true)
    (himage : i = .evNvload true → e.image.length = s.cfg.nvBytes) : ∃ t, step s = .next t := by
  rw [step_of_decoded hc hp hd hi]
  exact exec_completes hplace himage

theorem presentable_read (hk : (xKind a).toNat = 0) :
    Presentable s a w e ↔ xBusZero a = 0 ∧ w = 0 ∧ a.getLsbD 0 = false := by simp only [Presentable, hk]

theorem presentable_write (hk : (xKind a).toNat = 1) :
    Presentable s a w e ↔ xBusZero a = 0 ∧ a.getLsbD 0 = false := by simp only [Presentable, hk]

theorem presentable_event (hk : (xKind a).toNat = 2) :
    Presentable s a w e ↔ xEvent a < 7 ∧ xEventZero a = 0 ∧ w = 0 ∧ (hasArg (xEvent a) = true ∨ a.getLsbD 0 = false)
      ∧ (xEvent a = 5 → a.getLsbD 0 = true → e.image.length = s.cfg.nvBytes) := by simp only [Presentable, hk]

theorem not_presentable_reserved (hk : (xKind a).toNat = 3) : ¬Presentable s a w e := by
  simp only [Presentable, hk, not_false_iff]

/-- The address of an even bus pair is even. -/
theorem xAddr_even (h : a.getLsbD 0 = false) : (xAddr a).getLsbD 0 = false := by simpa [xAddr] using h

/-- A read completes exactly if its zero bits and its write word are zero and its address is even. -/
theorem step_presented_read (hc : configOk s.cfg = true) (hp : s.pending = ⟨.x a w, e⟩ :: rest) (hk : (xKind a).toNat = 0) :
    (Presentable s a w e → ∃ t, step s = .next t) ∧ (¬Presentable s a w e → ∃ r, step s = .refused r) := by
  rw [presentable_read hk]
  constructor
  · rintro ⟨hz, hw, heven⟩
    obtain ⟨ht, _⟩ := configOk_iff.mp hc
    obtain ⟨h1, h2, _, _, _, h6, _⟩ := wfTable_iff.mp ht
    refine step_completes hc hp (resolveX_read hk ⟨hz, hw⟩ heven) (decode_readTxn _ _ _ _) (fun u off hplace => ?_)
      fun h => absurd h (decodeRead_ne_evNvload _ _ _)
    rw [operandPlace_decodeRead] at hplace
    exact lookup_inUnit h1 h2 h6 (xAddr_even heven) hplace
  · intro hn
    obtain ⟨r, hr⟩ := resolveX_read_error hk hn
    exact ⟨r, step_of_unresolved hc hp hr⟩

/-- A write completes exactly if its zero bits are zero and its address is even. -/
theorem step_presented_write (hc : configOk s.cfg = true) (hp : s.pending = ⟨.x a w, e⟩ :: rest) (hk : (xKind a).toNat = 1) :
    (Presentable s a w e → ∃ t, step s = .next t) ∧ (¬Presentable s a w e → ∃ r, step s = .refused r) := by
  rw [presentable_write hk]
  constructor
  · rintro ⟨hz, heven⟩
    obtain ⟨_, ht, _⟩ := configOk_iff.mp hc
    obtain ⟨h1, h2, _, _, _, h6, _⟩ := wfTable_iff.mp ht
    refine step_completes hc hp (resolveX_write hk hz heven) (decode_writeTxn _ _ _ _ _) (fun u off hplace => ?_)
      fun h => absurd h (decodeWrite_ne_evNvload _ _)
    rw [operandPlace_decodeWrite] at hplace
    exact lookup_inUnit h1 h2 h6 (xAddr_even heven) hplace
  · intro hn
    obtain ⟨r, hr⟩ := resolveX_write_error hk hn
    exact ⟨r, step_of_unresolved hc hp hr⟩

/-- An event completes exactly if its code has an event, what it leaves open is zero, and the image it announces is whole; the
boundary refuses the rest but the image, which EV.NVLOAD itself refuses. -/
theorem step_presented_event (hc : configOk s.cfg = true) (hp : s.pending = ⟨.x a w, e⟩ :: rest) (hk : (xKind a).toNat = 2) :
    (Presentable s a w e → ∃ t, step s = .next t) ∧ (¬Presentable s a w e → ∃ r, step s = .refused r) := by
  rw [presentable_event hk]
  by_cases hlt : xEvent a < 7
  · by_cases hz : xEventZero a = 0 ∧ w = 0 ∧ (hasArg (xEvent a) = true ∨ a.getLsbD 0 = false)
    · have hd : resolveX s.cfg a w = .ok ⟨a, 0, 0⟩ := by
        simp only [resolveX, hk, if_neg (Nat.not_le.mpr hlt), if_pos hz]
      obtain ⟨i, hi, hnoplace, hnvload⟩ := decodeEvent_of_lt (t := a) hlt
      rw [← decode_event (in1 := s.cfg.guwIn1Off) hk] at hi
      constructor
      · rintro ⟨_, _, _, _, himage⟩
        refine step_completes hc hp hd hi (by simp [hnoplace]) fun h => ?_
        obtain ⟨h5, harg⟩ := hnvload.mp h
        exact himage h5 harg
      · intro hn
        have hbad : (xEvent a = 5 ∧ a.getLsbD 0 = true) ∧ e.image.length ≠ s.cfg.nvBytes := by tauto
        obtain ⟨hload, hlen⟩ := hbad
        obtain rfl := hnvload.mpr hload
        exact ⟨.imageLength, (step_of_decoded hc hp hd hi).trans (exec_evNvload_of_badImage hlen)⟩
    · have hr : resolveX s.cfg a w = .error .malformedTransaction := by
        simp only [resolveX, hk, if_neg (Nat.not_le.mpr hlt), if_neg hz]
      exact ⟨fun ⟨_, h1, h2, h3, _⟩ => absurd ⟨h1, h2, h3⟩ hz, fun _ => ⟨_, step_of_unresolved hc hp hr⟩⟩
  · have hr : resolveX s.cfg a w = .error (.undecodable (.reservedEvent (xEvent a))) := by
      simp only [resolveX, hk, if_pos (Nat.not_lt.mp hlt)]
    exact ⟨fun h => absurd h.1 hlt, fun _ => ⟨_, step_of_unresolved hc hp hr⟩⟩

/-- Kind 3 is refused at the boundary (30_encoding.md R61 (g)). -/
theorem step_presented_reserved (hc : configOk s.cfg = true) (hp : s.pending = ⟨.x a w, e⟩ :: rest)
    (hk : (xKind a).toNat = 3) : step s = .refused (.undecodable .reservedKind) :=
  step_of_unresolved hc hp (by simp only [resolve, resolveX, hk])

/-- In a well-formed configuration a step completes exactly if the interface can carry what is presented first. -/
theorem step_presented (hc : configOk s.cfg = true) (hp : s.pending = ⟨.x a w, e⟩ :: rest) :
    (Presentable s a w e → ∃ t, step s = .next t) ∧ (¬Presentable s a w e → ∃ r, step s = .refused r) := by
  have hkinds : (xKind a).toNat = 0 ∨ (xKind a).toNat = 1 ∨ (xKind a).toNat = 2 ∨ (xKind a).toNat = 3 := by
    have := (xKind a).isLt
    omega
  rcases hkinds with hk | hk | hk | hk
  · exact step_presented_read hc hp hk
  · exact step_presented_write hc hp hk
  · exact step_presented_event hc hp hk
  · exact ⟨fun h => absurd h (not_presentable_reserved hk), fun _ => ⟨_, step_presented_reserved hc hp hk⟩⟩

end

/-- Settles O8: a presented pair by its kind, and the set of faults is empty. -/
theorem everyPresentedOperationCompletes : Obligations.EveryPresentedOperationCompletes :=
  ⟨fun _ _ _ _ _ => step_presented, fun _ => step_of_illFormed, fun _ f => nomatch f⟩

end Sys2Proof.Machine
end

section
/-! SUPPORT. What the operations do to the state as a whole: what all of them keep, which of them reach storage, that none of
them shows the sound flag, and the two ends of a life of the block: the reset state and the saved array (10_state.md R15, R16,
R18, R29). -/

namespace Sys2Proof.Machine

open Sys2Proof Sys2Proof.Safety

/-! ## What every operation keeps -/

/-- No operation touches the configuration, the queue or its own samples (10_state.md R18, R19). -/
theorem Effect.keeps_inputs {i : Instr} {s t : State} (h : Effect s i t) :
    t.cfg = s.cfg ∧ t.pending = s.pending ∧ t.env = s.env := by
  cases h <;> exact ⟨rfl, rfl, rfl⟩

/-- Settles O12: taking the operation sets the queue and the samples, and running it keeps both. -/
theorem stepTakesOneOperationAndKeepsTheConfiguration : Obligations.StepTakesOneOperationAndKeepsTheConfiguration := by
  intro s t h
  obtain ⟨_, ⟨hidle, rfl⟩ | ⟨p, rest, d, i, hp, _, _, he⟩⟩ := step_cases h
  · exact ⟨rfl, fun p rest hp => nomatch hidle.symm.trans hp⟩
  · obtain ⟨hcfg, hpending, henv⟩ := (exec_effect he).keeps_inputs
    refine ⟨hcfg, fun p' rest' hp' => ?_⟩
    obtain ⟨rfl, rfl⟩ := List.cons.inj (hp.symm.trans hp')
    exact ⟨hpending, henv⟩

/-! ## Storage -/

/-- The written bytes and the reset that drew the others change only by a storage write or EV.RESET (10_state.md R16). -/
theorem Effect.keeps_storage {i : Instr} {s t : State} (h : Effect s i t) (hs : storesToUnit i = false) (hr : i ≠ .evReset) :
    t.mem = s.mem ∧ t.epoch = s.epoch := by
  cases h with
  | stored hstores | noticed hstores => exact nomatch hs.symm.trans hstores
  | restarted hreset => exact absurd hreset hr
  | _ => exact ⟨rfl, rfl⟩

/-- Settles O48: what a byte reads as depends on the written bytes and the reset alone, and both are kept. -/
theorem storageChangesOnlyByStorageWrites : Obligations.StorageChangesOnlyByStorageWrites := by
  intro i s t hs hr h
  obtain ⟨hmem, hepoch⟩ := (exec_effect h).keeps_storage hs hr
  exact readByte_congr hmem hepoch

/-! ## The sound flag and the line -/

/-- The state with the sound flag and the line at given values. -/
def State.withSound (s : State) (sound line : Bool) : State := { s with soundPending := sound, irqLine := line }

/-- Two states that differ in the sound flag and the line only read the same in storage. -/
theorem storageKept_withSound (s : State) (sound line : Bool) : StorageKept s (s.withSound sound line) :=
  readByte_congr rfl rfl

/-- Whether a storage operation completes does not depend on the state it leads to. -/
theorem onUnit_withSound {c : Config} {u : UnitId} {off : Addr} {t₀ t : State} (sound line : Bool)
    (h : onUnit c u off t₀ = .next t) : onUnit c u off (t₀.withSound sound line) = .next (t.withSound sound line) := by
  obtain ⟨hin, rfl⟩ := onUnit_next.mp h
  exact onUnit_of_inside _ hin

theorem eeControl_withSound (s : State) (l : Layout) (w : Word32) (sound line : Bool) :
    eeControl (s.withSound sound line) l w = (eeControl s l w).withSound sound line := by
  cases h : eeEffective l w with
  | true => rw [eeControl_of_effective _ h, eeControl_of_effective _ h]; rfl
  | false => rw [eeControl_of_blocked _ h, eeControl_of_blocked _ h]

theorem soundWrite_withSound (s : State) (w : Word32) (c : Call) (sound line : Bool) :
    soundWrite (s.withSound sound line) w c = (soundWrite s w c).withSound sound line := by
  unfold soundWrite
  split <;> rfl

/-- EV.UNKNOWN in the STD variants (41_irq_cause.md R72). -/
theorem exec_evUnknown_of_std {s : State} (h : protoOf s.cfg.variant = .std) :
    exec .evUnknown s = .next (updateIrq (s.setUnknown true)) := congrArg (Host.Outcome.next ∘ updateIrq) (if_pos h)

/-- EV.UNKNOWN in the ALT variant, where the source is tied off (41_irq_cause.md R72). -/
theorem exec_evUnknown_of_tiedOff {s : State} (h : protoOf s.cfg.variant ≠ .std) :
    exec .evUnknown s = .next (updateIrq s) := congrArg (Host.Outcome.next ∘ updateIrq) (if_neg h)

/-- An operation that completes does so whatever the sound flag and the line are, and then leads to a state that differs in
nothing else: each of its parts reads other fields only, and a cause value is formed from the two other flags. -/
theorem exec_withSound {i : Instr} {s t : State} (sound line : Bool) (h : exec i s = .next t) :
    ∃ sound' line', exec i (s.withSound sound line) = .next (t.withSound sound' line') := by
  cases i with
  | rdRom u off | rdRam u off | rdSpriteram u off | rdVram16 u off | rdVram8 u off | rdPalette u off | rdVideoregs u off
  | rdLayerctrl u off => exact ⟨_, _, onUnit_withSound sound line h⟩
  | wrRam u off w | wrSpriteram u off w | wrVram16 u off w | wrVram8 u off w | wrPalette u off w | wrVideoregs u off w
  | wrLayerctrl u off w => exact ⟨_, _, onUnit_withSound sound line h⟩
  | wrSndReg off w | wrSndData off w =>
    cases h
    exact ⟨_, _, congrArg Host.Outcome.next (soundWrite_withSound s w _ sound line)⟩
  | wrEeStd off w | wrEeGuw off w =>
    cases h
    exact ⟨_, _, congrArg Host.Outcome.next (eeControl_withSound s _ w sound line)⟩
  | evUnknown =>
    by_cases hp : protoOf s.cfg.variant = .std
    · obtain rfl := Host.Outcome.next.inj ((exec_evUnknown_of_std hp).symm.trans h)
      exact ⟨sound, _, exec_evUnknown_of_std (s := s.withSound sound line) hp⟩
    · obtain rfl := Host.Outcome.next.inj ((exec_evUnknown_of_tiedOff hp).symm.trans h)
      exact ⟨sound, _, exec_evUnknown_of_tiedOff (s := s.withSound sound line) hp⟩
  | evNvload hasImage =>
    cases hasImage with
    | false => cases h; exact ⟨sound, line, rfl⟩
    | true =>
      by_cases hl : s.env.image.length = s.cfg.nvBytes
      · obtain rfl := Host.Outcome.next.inj ((exec_evNvload_of_image hl).symm.trans h)
        exact ⟨sound, line, exec_evNvload_of_image (s := s.withSound sound line) hl⟩
      · exact nomatch (exec_evNvload_of_badImage hl).symm.trans h
  | evVblank | evReset | evSndirq active => cases h; exact ⟨_, _, rfl⟩
  | _ => cases h; exact ⟨sound, _, rfl⟩

/-- Settles O23: the two next states differ in nothing but the sound flag and the line, which are none of the fields
named. -/
theorem soundFlagIsInvisible : Obligations.SoundFlagIsInvisible := by
  intro i s t sound line h
  obtain ⟨sound', line', h'⟩ := exec_withSound sound line h
  exact ⟨t.withSound sound' line', h', rfl, rfl, rfl, rfl, rfl, rfl, storageKept_withSound t sound' line'⟩

/-! ## The array from one life to another -/

/-- The only image EV.NVSAVE can have appended is the array (46_nvram_host.md R161). -/
theorem image_of_evNvsave {s t : State} {image : List Byte} (h : exec .evNvsave s = .next t)
    (ht : t.trace = s.trace ++ [.nvSaveImage image]) : image = s.eeCore.nv := by
  cases h
  simpa using ht.symm

/-- The restarted core holds the array it is restarted around. -/
theorem eeRestart_nv (s : State) (b : List Byte) : (eeRestart s b).eeCore.nv = b := coreInit_nv _ _

/-- Settles O57: the saved image is the whole array, so it has the length a load asks for. -/
theorem saveThenLoadRestoresTheArray : Obligations.SaveThenLoadRestoresTheArray := by
  intro s s' t image hwhole hbytes hsave htrace himage
  have hnv : s'.env.image = s.eeCore.nv := himage.trans (image_of_evNvsave hsave htrace)
  have hlen : s'.env.image.length = s'.cfg.nvBytes := by rw [hnv, hwhole, hbytes]
  exact ⟨_, exec_evNvload_of_image hlen, (eeRestart_nv _ _).trans hnv⟩

/-! ## The reset state -/

/-- The part of the core that EEREF uses starts in EEREF's initial state, whichever core is configured. -/
theorem coreInit_ref (k : CoreKind) (b : List Byte) : (coreInit k b).ref = eerefInit := by cases k <;> rfl

/-- The array before the first load has `NV_BYTES` bytes (70_reset_and_hazards.md R191). -/
theorem resetIn_arrayWhole (c : Config) : ArrayWhole (State.resetIn c) := by
  change (coreInit c.eecore (drawnNv c.nvBytes)).nv.length = c.nvBytes
  simp [drawnNv]

/-- EEREF starts with the level copies at the reset values of the pin latches (42_eeprom.md R95). -/
theorem resetIn_copiesAgree (c : Config) : CopiesAgree (State.resetIn c) := by
  intro _
  have href : (State.resetIn c).eeCore.ref = eerefInit := coreInit_ref _ _
  rw [href]
  exact ⟨rfl, rfl, rfl⟩

/-- EEREF starts with an empty command register and sends nothing (42_eeprom.md R95). -/
theorem resetIn_commandOpen (c : Config) : CommandOpen (State.resetIn c) := by
  intro _
  have href : (State.resetIn c).eeCore.ref = eerefInit := coreInit_ref _ _
  rw [href]
  simp [eerefInit]

/-- The reset state of every configuration meets the invariant. -/
theorem inv_resetIn (c : Config) : Inv (State.resetIn c) where
  memory := rfl
  line := rfl
  unknown _ := rfl
  array := resetIn_arrayWhole c
  copies := resetIn_copiesAgree c
  command := resetIn_commandOpen c

/-- Settles O59: the model's one reset state is that of `exmapA`. -/
theorem invariantHoldsAtReset : Obligations.InvariantHoldsAtReset := ⟨inv_resetIn, inv_resetIn exmapA⟩

end Sys2Proof.Machine
end

section
/-! SUPPORT. Running one presented operation (20_memory.md R37, R40): what the boundary makes of each form, what a step does with
it, that a read without an acknowledge leaves the state alone, and that a bus read returns what a bus store put at its place. -/

namespace Sys2Proof.Machine

open Sys2Proof Sys2Proof.Safety

/-! ## Bus pairs at the boundary -/

/-- The kind of a bus word is the top two of the eight bits above its address (30_encoding.md R50). -/
theorem xKind_append (b : Byte) (addr : Addr) : xKind (b ++ addr) = b.extractLsb' 6 2 :=
  BitVec.extractLsb'_append_eq_of_le (by decide)

/-- The zero bits of a bus word are the other six. -/
theorem xBusZero_append (b : Byte) (addr : Addr) : xBusZero (b ++ addr) = b.extractLsb' 0 6 :=
  BitVec.extractLsb'_append_eq_of_le (by decide)

theorem xAddr_append (b : Byte) (addr : Addr) : xAddr (b ++ addr) = addr := BitVec.extractLsb'_append_eq_right

/-- A bus word is odd where its address is. -/
theorem getLsbD_zero_append (b : Byte) (addr : Addr) : (b ++ addr : Word32).getLsbD 0 = addr.getLsbD 0 :=
  BitVec.getLsbD_append

/-- A listed read goes to the read table, unless its address is odd (44_dispatcher.md R121; 20_memory.md R34). -/
theorem resolve_listRd (c : Config) (addr : Addr) :
    resolve c (listRd addr) = if addr.getLsbD 0 then .error .oddAddress else .ok (busRead c addr) := by
  have hk : (xKind ((0 : Byte) ++ addr)).toNat = 0 := congrArg BitVec.toNat (xKind_append 0 addr)
  have hz : xBusZero ((0 : Byte) ++ addr) = 0 := xBusZero_append 0 addr
  simp only [resolve, listRd, resolveX, hk, hz, xAddr_append, getLsbD_zero_append, and_self, if_true]

/-- A listed write goes to the write table with its write word, unless its address is odd (44_dispatcher.md R121; 20_memory.md
R34). -/
theorem resolve_listWr (c : Config) (addr : Addr) (w : Word32) :
    resolve c (listWr addr w) = if addr.getLsbD 0 then .error .oddAddress else .ok (busWrite c addr w) := by
  have hk : (xKind ((0x40 : Byte) ++ addr)).toNat = 1 := congrArg BitVec.toNat (xKind_append 0x40 addr)
  have hz : xBusZero ((0x40 : Byte) ++ addr) = 0 := xBusZero_append 0x40 addr
  simp only [resolve, listWr, resolveX, hk, hz, xAddr_append, getLsbD_zero_append, if_true]

/-! ## Event words at the boundary -/

/-- The word `listEv` presents: the event with a code and an argument bit (30_encoding.md R50, R53). -/
def eventWord (code : BitVec 4) (arg : Bool) : Word32 :=
  (2 : BitVec 2) ++ code ++ (0 : BitVec 25) ++ BitVec.ofBool arg

theorem eventWord_fields (code : BitVec 4) (arg : Bool) :
    xKind (eventWord code arg) = 2 ∧ tCode (eventWord code arg) = code ∧ xEventZero (eventWord code arg) = 0
      ∧ (eventWord code arg).getLsbD 0 = arg := by
  revert code arg
  decide

/-- The seven events in the order of their codes, with an argument for those that have one (30_encoding.md R53). -/
def eventsByCode (arg : Bool) : List Instr :=
  [.evReset, .evVblank, .evSndirq arg, .evUnknown, .evRender, .evNvload arg, .evNvsave]

/-- An event word decodes to the event of its code, with its bit 0 as the argument. -/
theorem decodeEvent_of_eventsByCode {t : Word32} {i : Instr}
    (h : (eventsByCode (t.getLsbD 0))[(tCode t).toNat]? = some i) : decodeEvent t = .ok i := by
  have hlt : (tCode t).toNat < 7 := (List.getElem?_eq_some_iff.mp h).1
  interval_cases hcode : (tCode t).toNat
  all_goals simpa [decodeEvent, hcode, eventsByCode] using h

/-- The boundary passes on an event whose code has an event and whose other bits are zero, but for an argument. -/
theorem resolveX_event {c : Config} {a w : Word32} (hk : (xKind a).toNat = 2) (hlt : xEvent a < 7)
    (hz : xEventZero a = 0 ∧ w = 0 ∧ (hasArg (xEvent a) = true ∨ a.getLsbD 0 = false)) :
    resolveX c a w = .ok ⟨a, 0, 0⟩ := by
  simp only [resolveX, hk, if_neg (Nat.not_le.mpr hlt), if_pos hz]

/-- An event word with an argument bit only where the event has an argument is itself at the boundary and decodes to the event
of its code (30_encoding.md R53). -/
theorem resolve_decode_eventWord (c : Config) (in1 : Addr) {code : BitVec 4} {arg : Bool} {i : Instr}
    (harg : arg = true → code = 2 ∨ code = 5) (hi : (eventsByCode arg)[code.toNat]? = some i) :
    resolve c (listEv code arg) = .ok ⟨eventWord code arg, 0, 0⟩
      ∧ decode in1 ⟨eventWord code arg, 0, 0⟩ = .ok i := by
  obtain ⟨hkind, hcode, hzero, hbit⟩ := eventWord_fields code arg
  have hk : (xKind (eventWord code arg)).toNat = 2 := congrArg BitVec.toNat hkind
  have he : xEvent (eventWord code arg) = code.toNat := congrArg BitVec.toNat hcode
  have hlt : code.toNat < 7 := (List.getElem?_eq_some_iff.mp hi).1
  have hallowed : hasArg code.toNat = true ∨ arg = false := by
    cases arg with
    | false => exact .inr rfl
    | true => rcases harg rfl with rfl | rfl <;> exact .inl rfl
  constructor
  · exact resolveX_event (a := eventWord code arg) hk (he ▸ hlt) ⟨hzero, rfl, by rwa [he, hbit]⟩
  · rw [decode_event hk]
    exact decodeEvent_of_eventsByCode (by rwa [hbit, hcode])

/-! ## One step -/

/-- With nothing presented the block waits (10_state.md R22). -/
theorem step_of_idle {s : State} (hc : configOk s.cfg = true) (hp : s.pending = []) : step s = .next s := by
  simp [step, hc, hp]

/-- Settles O7: the step by whether something is presented, and the boundary by the form. -/
theorem stepRunsDecodedOperation : Obligations.StepRunsDecodedOperation := by
  refine ⟨fun s p rest d i => step_of_decoded, fun s => step_of_idle,
    fun c addr w => ⟨resolve_listRd c addr, resolve_listWr c addr w⟩, ?_, fun c d => rfl⟩
  rintro c in1 code arg _ i rfl harg hi
  exact resolve_decode_eventWord c in1 harg hi

section
variable {s : State} {addr : Addr} {w : Word32} {e : Env} {rest : List Presented}

/-- A step at a read of an even address runs what the read table makes of it. -/
theorem step_listRd (hc : configOk s.cfg = true) (hp : s.pending = ⟨listRd addr, e⟩ :: rest) (heven : addr.getLsbD 0 = false) :
    step s = exec (decodeRead s.cfg.guwIn1Off (busRead s.cfg addr)) (s.take ⟨listRd addr, e⟩ rest) :=
  step_of_decoded hc hp ((resolve_listRd _ _).trans (if_neg (Bool.eq_false_iff.mp heven))) (decode_readTxn _ _ _ _)

/-- A step at a write to an even address runs what the write table makes of it. -/
theorem step_listWr (hc : configOk s.cfg = true) (hp : s.pending = ⟨listWr addr w, e⟩ :: rest)
    (heven : addr.getLsbD 0 = false) :
    step s = exec (decodeWrite (busWrite s.cfg addr w)) (s.take ⟨listWr addr w, e⟩ rest) :=
  step_of_decoded hc hp ((resolve_listWr _ _ _).trans (if_neg (Bool.eq_false_iff.mp heven))) (decode_writeTxn _ _ _ _ _)

end

/-! ## Reads that do not acknowledge -/

/-- A read that does not acknowledge keeps the flags, so where the line is already their OR it drives the line to the level it
has (20_memory.md R37; 41_irq_cause.md R78). -/
theorem Effect.of_read {i : Instr} {s t : State} (h : Effect s i t) (hread : isRead i = true) (hack : acknowledges i = false)
    (hline : LineAgrees s) : t = { s with rdata := t.rdata, draws := t.draws } ∧ t.rdata.isSome = true := by
  cases h with
  | answered | drawn => exact ⟨rfl, rfl⟩
  | read hr v u hv hu hkeep r =>
    obtain ⟨rfl, rfl⟩ := hkeep hack
    rw [← hline]
    exact ⟨rfl, rfl⟩
  | nothing hno | latched hno | called hno => exact nomatch hno.symm.trans hread
  | stored hs | noticed hs => exact nomatch (isRead_of_storesToUnit hs).symm.trans hread
  | driven hd =>
    obtain ⟨_, _, _, hno⟩ := hd
    exact nomatch hno.symm.trans hread
  | loaded hl | zeroed hl | restarted hl | displayed hl => subst hl; cases hread

/-- Settles O22: what a read can do to the state, said once for all reads. -/
theorem otherReadsChangeNothing : Obligations.OtherReadsChangeNothing :=
  fun _ _ _ hread hack hline h => (exec_effect h).of_read hread hack hline

/-! ## A store, then a read of the same place -/

/-- The merged word is the word read back (45_storage_and_sound.md R155). -/
theorem storedWord_storeWrite (s : State) (u : UnitId) (off : Addr) (w : Word32) :
    storedWord (storeWrite s u off w) u off = mergedWord s u off w := storedWord_writeWord _ _ _ _

/-- A word store replaces both bytes of the old word (20_memory.md R32, R36). -/
theorem mux16_wordStore (old d : Word) : mux16 old (wordStore d) = d := by
  have hhigh : (wordStore d).extractLsb' 8 8 = d.extractLsb' 8 8 := BitVec.extractLsb'_append_eq_of_add_le (by decide)
  have hjoin : d.extractLsb' 8 8 ++ d.extractLsb' 0 8 = d :=
    (BitVec.extractLsb'_append_extractLsb'_eq_extractLsb' rfl).trans BitVec.extractLsb'_eq_self
  simp only [mux16, muxByte, wLaneHi_wordStore, wLaneLo_wordStore, wLowByte_wordStore, hhigh, if_true, hjoin]

section
variable {s : State} {h : Hit} {u : UnitId} {o : Addr}

/-- A read that reaches a place in a writable unit returns the word there, by whichever kind of entry it is reached
(45_storage_and_sound.md R137 to R150). -/
theorem exec_decodeRead_of_place (in1 : Addr) (hp : storagePlace s.cfg h = some (u, o)) (hrom : u.kind ≠ .rom)
    (hin : inUnit s.cfg u o = true) :
    exec (decodeRead in1 (readTxn h.kind h.unit h.off)) s = .next (s.answer (storedWord s u o)) := by
  obtain ⟨k, n, off⟩ := h
  simp only [decodeRead, readTxn, tCode_mkT, tOff_mkT, regionOfCode_code]
  cases k with
  | ram | spriteram | vram16 | vram8 | palette | videoregs | layerctrl => cases hp; exact onUnit_of_inside _ hin
  | rom => cases hp; exact absurd rfl hrom
  | _ => cases hp

/-- A write that reaches a place in a writable unit leaves the merged word there, by whichever kind of entry it is reached
(45_storage_and_sound.md R138 to R151). -/
theorem exec_decodeWrite_of_place (w : Word32) (hp : storagePlace s.cfg h = some (u, o)) (hrom : u.kind ≠ .rom)
    (hin : inUnit s.cfg u o = true) :
    ∃ t, exec (decodeWrite (writeTxn h.kind h.unit h.off w)) s = .next t ∧ storedWord t u o = mergedWord s u o w := by
  obtain ⟨k, n, off⟩ := h
  simp only [decodeWrite, writeTxn, tCode_mkT, tOff_mkT, regionOfCode_code]
  cases k with
  | ram | spriteram | vram16 | vram8 | palette | videoregs | layerctrl =>
    cases hp
    exact ⟨_, onUnit_of_inside _ hin, storedWord_storeWrite _ _ _ _⟩
  | rom => cases hp; exact absurd rfl hrom
  | _ => cases hp

end

section
variable {s : State} {addr : Addr} {e : Env} {rest : List Presented} {u : UnitId} {o : Addr}

/-- A step at a write that the write table takes to a place in a writable unit stores the merged word there. -/
theorem step_listWr_stores {w : Word32} (hc : configOk s.cfg = true) (hp : s.pending = ⟨listWr addr w, e⟩ :: rest)
    (heven : addr.getLsbD 0 = false) (hplace : storagePlace s.cfg (lookup s.cfg.wtab addr) = some (u, o))
    (hrom : u.kind ≠ .rom) :
    ∃ t, step s = .next t ∧ storedWord t u o = mergedWord s u o w ∧ t.cfg = s.cfg ∧ t.pending = rest := by
  obtain ⟨_, htab, _⟩ := configOk_iff.mp hc
  obtain ⟨h1, h2, _, _, _, h6, _⟩ := wfTable_iff.mp htab
  have hin := lookup_inUnit h1 h2 h6 heven hplace
  obtain ⟨t, ht, hstored⟩ := exec_decodeWrite_of_place (s := s.take ⟨listWr addr w, e⟩ rest) w hplace hrom hin
  obtain ⟨hcfg, hpending, _⟩ := (exec_effect ht).keeps_inputs
  exact ⟨t, (step_listWr hc hp heven).trans ht, hstored, hcfg, hpending⟩

/-- A step at a read that the read table takes to a place in a writable unit returns the word there. -/
theorem step_listRd_returns (hc : configOk s.cfg = true) (hp : s.pending = ⟨listRd addr, e⟩ :: rest)
    (heven : addr.getLsbD 0 = false) (hplace : storagePlace s.cfg (lookup s.cfg.rtab addr) = some (u, o))
    (hrom : u.kind ≠ .rom) :
    ∃ t, step s = .next t ∧ t.rdata = some (storedWord s u o) ∧ t.pending = rest := by
  obtain ⟨htab, _⟩ := configOk_iff.mp hc
  obtain ⟨h1, h2, _, _, _, h6, _⟩ := wfTable_iff.mp htab
  have hin := lookup_inUnit h1 h2 h6 heven hplace
  have hexec := exec_decodeRead_of_place (s := s.take ⟨listRd addr, e⟩ rest) s.cfg.guwIn1Off hplace hrom hin
  exact ⟨_, (step_listRd hc hp heven).trans hexec, rfl, rfl⟩

end

/-- Two steps that complete, as a run. -/
theorem run_two {s s' t : State} (h : step s = .next s') (h' : step s' = .next t) : Sys2Proof.core.run 2 s = .next t := by
  simp [Host.Core.run, Sys2Proof.core, h, h']

/-- Settles O49: the store leaves the word at the place, and the read, in the same configuration, returns what is there. -/
theorem busStoreThenReadReturnsTheWord : Obligations.BusStoreThenReadReturnsTheWord := by
  intro s wa ra d e₁ e₂ rest u o hc hp hwa hra hwplace hrom hrplace
  obtain ⟨s', hstore, hstored, hcfg, hrest⟩ := step_listWr_stores hc hp hwa hwplace hrom
  obtain ⟨t, hread, hdata, ht⟩ := step_listRd_returns (s := s') (by rwa [hcfg]) hrest hra (by rwa [hcfg]) hrom
  have hword : storedWord s' u o = d := hstored.trans (mux16_wordStore _ d)
  exact ⟨t, run_two hstore hread, by rw [hdata, hword], ht⟩

end Sys2Proof.Machine
end

section
/-! SUPPORT. The decoder and the encoder (30_encoding.md R50 to R53, R60, R61): the six shapes of a T-format word and the answer
to each, the regions whose offset selects the row, and the two round trips. -/

namespace Sys2Proof

open Sys2Proof.Machine

/-! ## The shapes of a T-format word -/

theorem bitVec2_cases (k : BitVec 2) : k = 0 ∨ k = 1 ∨ k = 2 ∨ k = 3 := by
  revert k
  decide

/-- What a T-format word can be: the word of a region at an offset, read or written; a bus word with `T[25:24]` not zero; an event
word; a word of the reserved kind. -/
inductive WordShape : Word32 → Prop where
  | read (k : RegionKind) (off : Addr) : WordShape (mkT 0 k.code 0 off)
  | write (k : RegionKind) (off : Addr) : WordShape (mkT 1 k.code 0 off)
  | rsvdRead {t : Word32} (hk : tKind t = 0) (hz : tZero t ≠ 0) : WordShape t
  | rsvdWrite {t : Word32} (hk : tKind t = 1) (hz : tZero t ≠ 0) : WordShape t
  | event {t : Word32} (hk : tKind t = 2) : WordShape t
  | reserved {t : Word32} (hk : tKind t = 3) : WordShape t

/-- All sixteen codes are regions, so a word with zero bits `T[25:24]` is the word of a region. -/
theorem mkT_region {t : Word32} {k : BitVec 2} (hk : tKind t = k) (hz : tZero t = 0) :
    mkT k (regionOfCode (tCode t)).code 0 (tOff t) = t := by
  rw [code_regionOfCode, ← hk, ← hz, mkT_fields]

/-- Every word has one of the shapes. -/
theorem wordShape (t : Word32) : WordShape t := by
  rcases bitVec2_cases (tKind t) with hk | hk | hk | hk
  · by_cases hz : tZero t = 0
    · rw [← mkT_region hk hz]
      exact .read _ _
    · exact .rsvdRead hk hz
  · by_cases hz : tZero t = 0
    · rw [← mkT_region hk hz]
      exact .write _ _
    · exact .rsvdWrite hk hz
  · exact .event hk
  · exact .reserved hk

/-! ## The decoder's answer to each shape -/

section
variable {in1 : Addr} {t w : Word32} {u : Nat}

/-- The write word beside a read has no part in its decoding. -/
theorem decode_region_read (in1 : Addr) (k : RegionKind) (off : Addr) (u : Nat) (w : Word32) :
    decode in1 ⟨mkT 0 k.code 0 off, u, w⟩ = .ok (decodeRead in1 (readTxn k u off)) := by
  simp [decode, decodeRead, readTxn]

theorem decode_region_write (in1 : Addr) (k : RegionKind) (off : Addr) (u : Nat) (w : Word32) :
    decode in1 ⟨mkT 1 k.code 0 off, u, w⟩ = .ok (decodeWrite (writeTxn k u off w)) := decode_writeTxn in1 k u off w

theorem decode_of_rsvdRead (hk : tKind t = 0) (hz : tZero t ≠ 0) :
    decode in1 ⟨t, u, w⟩ = .ok (.rdRsvd (t.extractLsb' 0 30)) := by
  simp only [decode, congrArg BitVec.toNat hk, if_neg hz]
  rfl

theorem decode_of_rsvdWrite (hk : tKind t = 1) (hz : tZero t ≠ 0) :
    decode in1 ⟨t, u, w⟩ = .ok (.wrRsvd (t.extractLsb' 0 30) w) := by
  simp only [decode, congrArg BitVec.toNat hk, if_neg hz]
  rfl

theorem decode_of_event (hk : tKind t = 2) : decode in1 ⟨t, u, w⟩ = decodeEvent t := by simp [decode, hk]

theorem decode_of_reserved (hk : tKind t = 3) : decode in1 ⟨t, u, w⟩ = .error .reservedKind := by simp [decode, hk]

/-- Event codes 7 to 15 fall through to the last arm of the event map. -/
theorem decodeEvent_of_reserved (h : 7 ≤ (tCode t).toNat) :
    decodeEvent t = .error (.reservedEvent (tCode t).toNat) := by
  obtain ⟨n, hn⟩ := Nat.exists_eq_add_of_le' h
  unfold decodeEvent
  rw [hn]
  rfl

end

/-- Settles O5: kind 3 falls through to the last arm of the decoder, codes 7 to 15 to the last arm of the event map. -/
theorem reservedWordsAreRefused : Obligations.ReservedWordsAreRefused :=
  fun _ _ => ⟨decode_of_reserved, fun hk h => (decode_of_event hk).trans (decodeEvent_of_reserved h)⟩

/-- Settles O6: each word is a literal, and the decoder computes. -/
theorem writtenOutWordsDecode : Obligations.WrittenOutWordsDecode := ⟨rfl, rfl, rfl, rfl, rfl, rfl, rfl⟩

/-! ## The regions whose offset selects the row -/

section
variable (in1 : Addr) (u : Nat) (off : Addr)

theorem decodeRead_irqcauseStd : decodeRead in1 (readTxn .irqcauseStd u off) =
    if off = 4 then .rdCauseStdAckv else if off = 6 then .rdCauseStdAcku
    else if off = 0 ∨ off = 2 then .rdCauseStdPeek off else .rdCauseStdOor off := by
  simp [decodeRead, readTxn]

theorem decodeRead_irqcauseAlt : decodeRead in1 (readTxn .irqcauseAlt u off) =
    if off = 0 then .rdCauseAltAckv else if off = 2 ∨ off = 4 ∨ off = 6 then .rdCauseAltPeek off
    else .rdCauseAltOor off := by
  simp [decodeRead, readTxn]

theorem decodeRead_inputStd : decodeRead in1 (readTxn .inputStd u off) =
    if off = 0 then .rdInStdP0 else if off = 2 then .rdInStdP1e else .rdInStdZero off := by
  simp [decodeRead, readTxn]

theorem decodeRead_inputGuw : decodeRead in1 (readTxn .inputGuw u off) =
    if off = 0 then .rdInGuwP0 else if off = in1 then .rdInGuwP1e else .rdInGuwZero off := by
  simp [decodeRead, readTxn]

theorem decodeWrite_sound (w : Word32) : decodeWrite (writeTxn .sound u off w) =
    if off.getLsbD 1 then .wrSndData off w else .wrSndReg off w := by
  simp [decodeWrite, writeTxn]

end

/-! ## From a word to its operation and back -/

/-- A reserved read keeps its word, because its operand is all of `T[29:0]`. -/
theorem encode_rdRsvd_extract {t : Word32} (in1 : Addr) (hk : tKind t = 0) :
    (encode in1 (.rdRsvd (t.extractLsb' 0 30))).t = t := by
  simp only [encode, ← hk, kindBits_extract]

/-- A reserved write keeps its word, because its operand is all of `T[29:0]`. -/
theorem encode_wrRsvd_extract {t : Word32} (in1 : Addr) (w : Word32) (hk : tKind t = 1) :
    (encode in1 (.wrRsvd (t.extractLsb' 0 30) w)).t = t := by
  simp only [encode, ← hk, kindBits_extract]

/-- The operation read from a region's word encodes to that word. -/
theorem encode_decodeRead (in1 : Addr) (k : RegionKind) (u : Nat) (off : Addr) :
    (encode in1 (decodeRead in1 (readTxn k u off))).t = mkT 0 k.code 0 off := by
  simp only [decodeRead, readTxn, tCode_mkT, tOff_mkT, regionOfCode_code]
  cases k with
  | inputStd | inputGuw | irqcauseStd | irqcauseAlt => dsimp only; split_ifs <;> simp_all [encode, readTxn]
  | eepromStd | eepromGuw => exact encode_rdRsvd_extract in1 (tKind_mkT _ _ _ _)
  | _ => rfl

/-- The operation read from a region's write word encodes to that word, with the write word beside it. -/
theorem encode_decodeWrite (in1 : Addr) (k : RegionKind) (u : Nat) (off : Addr) (w : Word32) :
    (encode in1 (decodeWrite (writeTxn k u off w))).t = mkT 1 k.code 0 off
      ∧ (encode in1 (decodeWrite (writeTxn k u off w))).w = w := by
  simp only [decodeWrite, writeTxn, tCode_mkT, tOff_mkT, regionOfCode_code]
  cases k with
  | sound => dsimp only; split_ifs <;> exact ⟨rfl, rfl⟩
  | inputStd | inputGuw | irqcauseStd | irqcauseAlt => exact ⟨encode_wrRsvd_extract in1 w (tKind_mkT _ _ _ _), rfl⟩
  | _ => exact ⟨rfl, rfl⟩

/-- Settles O3: the word by its shape. -/
theorem decodedOperationKeepsItsWord : Obligations.DecodedOperationKeepsItsWord := by
  rintro in1 ⟨t, u, w⟩ i h
  cases wordShape t with
  | read k off =>
    obtain rfl := Except.ok.inj ((decode_region_read in1 k off u w).symm.trans h)
    exact ⟨fun _ => encode_decodeRead in1 k u off, fun hk => by simp at hk⟩
  | write k off =>
    obtain rfl := Except.ok.inj ((decode_region_write in1 k off u w).symm.trans h)
    obtain ⟨ht, hw⟩ := encode_decodeWrite in1 k u off w
    exact ⟨fun _ => ht, fun _ => hw⟩
  | rsvdRead hk hz =>
    obtain rfl := Except.ok.inj ((decode_of_rsvdRead hk hz).symm.trans h)
    exact ⟨fun _ => encode_rdRsvd_extract in1 hk, fun hk' => by simp [hk] at hk'⟩
  | rsvdWrite hk hz =>
    obtain rfl := Except.ok.inj ((decode_of_rsvdWrite hk hz).symm.trans h)
    exact ⟨fun _ => encode_wrRsvd_extract in1 w hk, fun _ => rfl⟩
  | event hk => exact ⟨fun hne => absurd hk hne, fun hk' => by simp [hk] at hk'⟩
  | reserved hk => exact nomatch (decode_of_reserved hk).symm.trans h

/-! ## From an operation to its word and back -/

/-- The reserved reads in the fields of the word (30_encoding.md R61 (b)). -/
theorem rsvdRead_extract (t : Word32) :
    rsvdRead (t.extractLsb' 0 30) = (tZero t != 0 || tCode t == 10 || tCode t == 11) := by
  simp [rsvdRead, tZero, tCode, BitVec.extractLsb'_extractLsb'_of_le]

/-- The reserved writes in the fields of the word (30_encoding.md R61 (b)). -/
theorem rsvdWrite_extract (t : Word32) :
    rsvdWrite (t.extractLsb' 0 30) =
      (tZero t != 0 || tCode t == 12 || tCode t == 13 || tCode t == 14 || tCode t == 15) := by
  simp [rsvdWrite, tZero, tCode, BitVec.extractLsb'_extractLsb'_of_le]

section
variable {in1 : Addr} {t w : Word32} {u : Nat}

/-- A reserved read, whether by `T[25:24]` or by its region, is read as all of `T[29:0]`. -/
theorem decode_of_rsvdRead_extract (hk : tKind t = 0) (h : rsvdRead (t.extractLsb' 0 30) = true) :
    decode in1 ⟨t, u, w⟩ = .ok (.rdRsvd (t.extractLsb' 0 30)) := by
  cases wordShape t with
  | rsvdRead _ hz => exact decode_of_rsvdRead hk hz
  | read k off =>
    rw [rsvdRead_extract, tZero_mkT, tCode_mkT] at h
    rw [decode_region_read]
    cases k with
    | eepromStd | eepromGuw => simp [decodeRead, readTxn]
    | _ => exact nomatch h
  | write k off => simp at hk
  | rsvdWrite hk' | event hk' | reserved hk' => simp [hk] at hk'

/-- A reserved write, whether by `T[25:24]` or by its region, is read as all of `T[29:0]`. -/
theorem decode_of_rsvdWrite_extract (hk : tKind t = 1) (h : rsvdWrite (t.extractLsb' 0 30) = true) :
    decode in1 ⟨t, u, w⟩ = .ok (.wrRsvd (t.extractLsb' 0 30) w) := by
  cases wordShape t with
  | rsvdWrite _ hz => exact decode_of_rsvdWrite hk hz
  | write k off =>
    rw [rsvdWrite_extract, tZero_mkT, tCode_mkT] at h
    rw [decode_region_write]
    cases k with
    | inputStd | inputGuw | irqcauseStd | irqcauseAlt => simp [decodeWrite, writeTxn]
    | _ => exact nomatch h
  | read k off => simp at hk
  | rsvdRead hk' | event hk' | reserved hk' => simp [hk] at hk'

end

theorem decode_encode_rdRsvd (in1 : Addr) {bits : BitVec 30} (h : rsvdRead bits = true) :
    decode in1 (encode in1 (.rdRsvd bits)) = .ok (.rdRsvd bits) := by
  have hword : rsvdRead (((0 : BitVec 2) ++ bits).extractLsb' 0 30) = true := by rwa [extract_kindBits]
  simpa only [encode, extract_kindBits] using
    decode_of_rsvdRead_extract (in1 := in1) (u := 0) (w := 0) (Laws.tKind_append 0 bits) hword

theorem decode_encode_wrRsvd (in1 : Addr) {bits : BitVec 30} (w : Word32) (h : rsvdWrite bits = true) :
    decode in1 (encode in1 (.wrRsvd bits w)) = .ok (.wrRsvd bits w) := by
  have hword : rsvdWrite (((1 : BitVec 2) ++ bits).extractLsb' 0 30) = true := by rwa [extract_kindBits]
  simpa only [encode, extract_kindBits] using
    decode_of_rsvdWrite_extract (in1 := in1) (u := 0) (w := w) (Laws.tKind_append 1 bits) hword

section
variable {in1 : Addr} {i : Instr}

theorem decode_encode_of_read {k : RegionKind} {u : Nat} {off : Addr} (he : encode in1 i = readTxn k u off)
    (hd : decodeRead in1 (readTxn k u off) = i) : decode in1 (encode in1 i) = .ok i := by
  rw [he, decode_readTxn, hd]

theorem decode_encode_of_write {k : RegionKind} {u : Nat} {off : Addr} {w : Word32}
    (he : encode in1 i = writeTxn k u off w) (hd : decodeWrite (writeTxn k u off w) = i) :
    decode in1 (encode in1 i) = .ok i := by
  rw [he, decode_writeTxn, hd]

theorem decode_encode_of_event {code : BitVec 4} {arg : Bool} (he : encode in1 i = eventTxn code arg)
    (hi : (eventsByCode arg)[code.toNat]? = some i) : decode in1 (encode in1 i) = .ok i := by
  have hbit : (mkT 2 code 0 (if arg then 1 else 0)).getLsbD 0 = arg := by
    rw [getLsbD_mkT]
    cases arg <;> rfl
  rw [he, eventTxn, decode_of_event (tKind_mkT _ _ _ _)]
  exact decodeEvent_of_eventsByCode (by rwa [hbit, tCode_mkT])

end

/-- An offset beyond the cause window is none of its offsets. -/
theorem ne_of_beyond_window {off n : Addr} (h : 8 ≤ off.toNat) (hn : n.toNat < 8) : off ≠ n := by
  rintro rfl
  omega

/-- Settles O1: an operation's word is that of its region or event, and well-formedness says which offsets the more specific rows
of the region leave to it. -/
theorem decodeInvertsEncode : Obligations.DecodeInvertsEncode := by
  intro in1 i h
  cases i with
  | rdCauseStdAckv | rdCauseStdAcku => exact decode_encode_of_read rfl (decodeRead_irqcauseStd _ _ _)
  | rdCauseAltAckv => exact decode_encode_of_read rfl (decodeRead_irqcauseAlt _ _ _)
  | rdInStdP0 | rdInStdP1e => exact decode_encode_of_read rfl (decodeRead_inputStd _ _ _)
  | rdInGuwP0 => exact decode_encode_of_read rfl (decodeRead_inputGuw _ _ _)
  | rdCauseStdPeek off =>
    simp only [Instr.wf, Bool.or_eq_true, beq_iff_eq] at h
    refine decode_encode_of_read rfl ((decodeRead_irqcauseStd _ _ _).trans ?_)
    rcases h with rfl | rfl <;> rfl
  | rdCauseAltPeek off =>
    simp only [Instr.wf, Bool.or_eq_true, beq_iff_eq, or_assoc] at h
    refine decode_encode_of_read rfl ((decodeRead_irqcauseAlt _ _ _).trans ?_)
    rcases h with rfl | rfl | rfl <;> rfl
  | rdCauseStdOor off =>
    simp only [Instr.wf, Bool.and_eq_true, decide_eq_true_eq] at h
    obtain ⟨_, hbeyond⟩ := h
    exact decode_encode_of_read rfl (by simp [decodeRead_irqcauseStd, ne_of_beyond_window hbeyond])
  | rdCauseAltOor off =>
    simp only [Instr.wf, Bool.and_eq_true, decide_eq_true_eq] at h
    obtain ⟨_, hbeyond⟩ := h
    exact decode_encode_of_read rfl (by simp [decodeRead_irqcauseAlt, ne_of_beyond_window hbeyond])
  | rdInStdZero off =>
    simp only [Instr.wf, Bool.and_eq_true, bne_iff_ne] at h
    obtain ⟨⟨_, h0⟩, h2⟩ := h
    exact decode_encode_of_read rfl (by rw [decodeRead_inputStd, if_neg h0, if_neg h2])
  | rdInGuwZero off =>
    simp only [Instr.wf, Bool.and_eq_true, bne_iff_ne] at h
    obtain ⟨⟨_, h0⟩, h1⟩ := h
    exact decode_encode_of_read rfl (by rw [decodeRead_inputGuw, if_neg h0, if_neg h1])
  | rdInGuwP1e =>
    simp only [Instr.wf, Bool.and_eq_true, bne_iff_ne] at h
    obtain ⟨_, h0⟩ := h
    exact decode_encode_of_read rfl (by rw [decodeRead_inputGuw, if_neg h0, if_pos rfl])
  | rdRom u off | rdRam u off | rdSpriteram u off | rdVram16 u off | rdVram8 u off | rdPalette u off | rdVideoregs u off
  | rdLayerctrl u off | rdSndStatus off | rdUnmapped off =>
    exact decode_encode_of_read rfl (by simp [decodeRead, readTxn])
  | rdRsvd bits =>
    obtain ⟨hrsvd, _⟩ := Bool.and_eq_true_iff.mp h
    exact decode_encode_rdRsvd in1 hrsvd
  | wrRom u off w | wrRam u off w | wrSpriteram u off w | wrVram16 u off w | wrVram8 u off w | wrPalette u off w
  | wrVideoregs u off w | wrLayerctrl u off w | wrEeStd off w | wrEeGuw off w | wrUnmapped off w =>
    exact decode_encode_of_write rfl (by simp [decodeWrite, writeTxn])
  | wrSndReg off w =>
    simp only [Instr.wf, Bool.and_eq_true, Bool.not_eq_true'] at h
    obtain ⟨_, hport⟩ := h
    exact decode_encode_of_write rfl (by rw [decodeWrite_sound, hport]; rfl)
  | wrSndData off w =>
    obtain ⟨_, hport⟩ := Bool.and_eq_true_iff.mp h
    exact decode_encode_of_write rfl (by rw [decodeWrite_sound, if_pos hport])
  | wrRsvd bits w =>
    obtain ⟨hrsvd, _⟩ := Bool.and_eq_true_iff.mp h
    exact decode_encode_wrRsvd in1 w hrsvd
  | evReset | evVblank | evUnknown | evRender | evNvsave | evSndirq b | evNvload b =>
    exact decode_encode_of_event rfl rfl

end Sys2Proof
end

section
/-! SUPPORT. The operation map (30_encoding.md R60): the rows that the eight bits above the offset leave over, which row of these
the offset picks, and that the decoder answers with that row. -/

namespace Sys2Proof

open Sys2Proof.Machine

/-! ## A row in two parts -/

/-- `T[31:24]`, the eight bits above the offset: kind, code and zero bits. -/
def tHead (t : Word32) : BitVec 8 := t.extractLsb' 24 8

theorem tHead_mkT (k : BitVec 2) (c : BitVec 4) (z : BitVec 2) (o : Addr) : tHead (mkT k c z o) = k ++ c ++ z :=
  BitVec.extractLsb'_append_eq_left

theorem tHead_append_tOff (t : Word32) : (tHead t ++ tOff t : BitVec 32) = t :=
  (BitVec.extractLsb'_append_extractLsb'_eq_extractLsb' rfl).trans BitVec.extractLsb'_eq_self

theorem word_eq_iff {t v : Word32} : t = v ↔ tHead t = tHead v ∧ tOff t = tOff v := by
  refine ⟨by rintro rfl; exact ⟨rfl, rfl⟩, fun ⟨hh, ho⟩ => ?_⟩
  rw [← tHead_append_tOff t, hh, ho, tHead_append_tOff]

/-- The eight bits above the offset fit the row. -/
def OpRow.headFits (h : BitVec 8) (r : OpRow) : Bool := (h &&& tHead r.mask) == tHead r.value

/-- The row's test, in two parts. -/
theorem row_fits (t : Word32) (r : OpRow) :
    ((t &&& r.mask) == r.value) = (r.headFits (tHead t) && (tOff t &&& tOff r.mask) == tOff r.value) := by
  rw [Bool.eq_iff_iff]
  simp only [beq_iff_eq, word_eq_iff (v := r.value), OpRow.headFits, Bool.and_eq_true, tHead, tOff, BitVec.extractLsb'_and]

/-! ## Row 12 -/

/-- A row moved with `IN1_OFF(GUWANGE)`, as row 12 of the map is. -/
def OpRow.withIn1 (in1 : Addr) (r : OpRow) : OpRow :=
  if r.num = 12 then { r with value := r.value ||| in1.setWidth 32 } else r

/-- The map for `IN1_OFF(GUWANGE)` is the map for 0 with row 12 moved. -/
theorem opTable_eq_map (in1 : Addr) : opTable in1 = (opTable 0).map (OpRow.withIn1 in1) := rfl

theorem num_withIn1 (in1 : Addr) (r : OpRow) : (r.withIn1 in1).num = r.num := by
  unfold OpRow.withIn1
  split_ifs <;> rfl

theorem tHead_or_setWidth (v : Word32) (off : Addr) : tHead (v ||| off.setWidth 32) = tHead v := by
  have hzero : tHead (off.setWidth 32) = 0 := by
    apply BitVec.eq_of_getLsbD_eq
    intro i _
    simp [tHead]
  rw [tHead, BitVec.extractLsb'_or, ← tHead, ← tHead, hzero]
  exact BitVec.or_zero

theorem tOff_or_setWidth (v : Word32) (off : Addr) : tOff (v ||| off.setWidth 32) = tOff v ||| off := by
  have hoff : tOff (off.setWidth 32) = off := by
    apply BitVec.eq_of_getLsbD_eq
    intro i hi
    simpa [tOff, hi] using fun _ => Nat.lt_trans hi (by decide)
  rw [tOff, BitVec.extractLsb'_or, ← tOff, ← tOff, hoff]

/-- Moving row 12 moves the offset it asks for and nothing else. -/
theorem withIn1_fits (in1 : Addr) (t : Word32) (r : OpRow) :
    (t &&& (r.withIn1 in1).mask == (r.withIn1 in1).value) =
      (r.headFits (tHead t) && (tOff t &&& tOff r.mask == if r.num = 12 then tOff r.value ||| in1 else tOff r.value)) := by
  rw [row_fits, OpRow.withIn1, OpRow.headFits, OpRow.headFits]
  split_ifs <;> simp only [tHead_or_setWidth, tOff_or_setWidth]

/-! ## Picking by the offset -/

/-- The rows that the eight bits above the offset leave over, in order: the number, and the mask and match of the offset, for
`IN1_OFF(GUWANGE)` 0. -/
def offRows (h : BitVec 8) : List (Nat × Addr × Addr) :=
  ((opTable 0).filter (OpRow.headFits h)).map fun r => (r.num, tOff r.mask, tOff r.value)

/-- The first of such rows that the offset fits, with row 12 moved to `IN1_OFF(GUWANGE)`. -/
def pickRow (in1 off : Addr) : List (Nat × Addr × Addr) → Option Nat
  | [] => none
  | (n, mask, value) :: rest =>
    if off &&& mask = (if n = 12 then value ||| in1 else value) then some n else pickRow in1 off rest

/-- The first matching row of the map is the one that the offset picks from the rows the other bits leave over. -/
theorem firstRow_eq_pickRow (in1 : Addr) (t : Word32) : firstRow in1 t = pickRow in1 (tOff t) (offRows (tHead t)) := by
  rw [firstRow, opTable_eq_map, offRows]
  induction opTable 0 with
  | nil => rfl
  | cons r rest ih =>
    rw [List.map_cons, List.find?_cons, withIn1_fits]
    cases hh : r.headFits (tHead t) with
    | false => simpa [hh] using ih
    | true =>
      rw [Bool.true_and, List.filter_cons_of_pos hh, List.map_cons, pickRow]
      by_cases hfit : tOff t &&& tOff r.mask = if r.num = 12 then tOff r.value ||| in1 else tOff r.value
      · rw [if_pos hfit, beq_iff_eq.mpr hfit]
        exact congrArg some (num_withIn1 in1 r)
      · rw [if_neg hfit, beq_eq_false_iff_ne.mpr hfit]
        exact ih

theorem firstRow_mkT (in1 : Addr) (k : BitVec 2) (c : BitVec 4) (z : BitVec 2) (off : Addr) :
    firstRow in1 (mkT k c z off) = pickRow in1 off (offRows (k ++ c ++ z)) := by
  rw [firstRow_eq_pickRow, tHead_mkT, tOff_mkT]

theorem and_two (off : Addr) : off &&& 2 = if off.getLsbD 1 then 2 else 0 := BitVec.and_twoPow off 1

theorem and_four (off : Addr) : off &&& 4 = if off.getLsbD 2 then 4 else 0 := BitVec.and_twoPow off 2

/-- An offset with no bit set but bits 1 and 2 is one of the four of the cause window. -/
theorem and_window_eq_zero {off : Addr} : off &&& 0xFFFFF9 = 0 ↔ off = 0 ∨ off = 2 ∨ off = 4 ∨ off = 6 := by
  constructor
  · intro h
    have hbits : off = off &&& 2 ||| off &&& 4 := calc
      off = off &&& (0xFFFFF9 ||| (2 ||| 4)) := BitVec.and_allOnes.symm
      _ = off &&& 0xFFFFF9 ||| (off &&& 2 ||| off &&& 4) := by simp only [BitVec.and_or_distrib_left]
      _ = off &&& 2 ||| off &&& 4 := by rw [h]; exact BitVec.zero_or
    rw [hbits, and_two, and_four]
    cases off.getLsbD 1 <;> cases off.getLsbD 2 <;> decide
  · rintro (rfl | rfl | rfl | rfl) <;> rfl

section
variable {in1 off : Addr} {n : Nat} {rest : List (Nat × Addr × Addr)}

/-- A row that leaves the whole offset open. -/
theorem pickRow_open (hn : n ≠ 12) : pickRow in1 off ((n, 0, 0) :: rest) = some n := by simp [pickRow, hn]

theorem pickRow_of_head {rows : List (Nat × Addr × Addr)} (hn : n ≠ 12) (h : rows.head? = some (n, 0, 0)) :
    pickRow in1 off rows = some n := by
  obtain ⟨rest, rfl⟩ := List.head?_eq_some_iff.mp h
  exact pickRow_open hn

/-- A row that fixes the whole offset. -/
theorem pickRow_exact {value : Addr} (hn : n ≠ 12) :
    pickRow in1 off ((n, 0xFFFFFF, value) :: rest) = if off = value then some n else pickRow in1 off rest := by
  have hmask : off &&& 0xFFFFFF = off := BitVec.and_allOnes
  rw [pickRow, if_neg hn, hmask]

/-- Row 12 fixes the offset to `IN1_OFF(GUWANGE)`. -/
theorem pickRow_in1 :
    pickRow in1 off ((12, 0xFFFFFF, 0) :: rest) = if off = in1 then some 12 else pickRow in1 off rest := by
  have hmask : off &&& 0xFFFFFF = off := BitVec.and_allOnes
  have hvalue : 0 ||| in1 = in1 := BitVec.zero_or
  rw [pickRow, if_pos rfl, hmask, hvalue]

/-- The two peek rows take the four offsets of the cause window. -/
theorem pickRow_window (hn : n ≠ 12) :
    pickRow in1 off ((n, 0xFFFFF9, 0) :: rest) =
      if off = 0 ∨ off = 2 ∨ off = 4 ∨ off = 6 then some n else pickRow in1 off rest := by
  simp only [pickRow, if_neg hn, and_window_eq_zero]

/-- The two sound rows share the offsets out by bit 1. -/
theorem pickRow_port {m : Nat} (hn : n ≠ 12) (hm : m ≠ 12) :
    pickRow in1 off ((n, 2, 0) :: (m, 2, 2) :: rest) = if off.getLsbD 1 then some m else some n := by
  rw [pickRow, pickRow, if_neg hn, if_neg hm, and_two]
  cases off.getLsbD 1 <;> rfl

end

/-! ## The row of each shape -/

/-- The rows left over for a read of a region whose offset selects the row. -/
theorem offRows_read_window :
    offRows ((0 : BitVec 2) ++ RegionKind.irqcauseStd.code ++ (0 : BitVec 2)) =
        [(1, 0xFFFFFF, 4), (2, 0xFFFFFF, 6), (3, 0xFFFFF9, 0), (4, 0, 0), (24, 0, 0)]
      ∧ offRows ((0 : BitVec 2) ++ RegionKind.irqcauseAlt.code ++ (0 : BitVec 2)) =
        [(5, 0xFFFFFF, 0), (6, 0xFFFFF9, 0), (7, 0, 0), (24, 0, 0)]
      ∧ offRows ((0 : BitVec 2) ++ RegionKind.inputStd.code ++ (0 : BitVec 2)) =
        [(8, 0xFFFFFF, 0), (9, 0xFFFFFF, 2), (10, 0, 0), (24, 0, 0)]
      ∧ offRows ((0 : BitVec 2) ++ RegionKind.inputGuw.code ++ (0 : BitVec 2)) =
        [(11, 0xFFFFFF, 0), (12, 0xFFFFFF, 0), (13, 0, 0), (24, 0, 0)] := by
  decide

/-- A read of a region selects the row of the operation it decodes to. -/
theorem firstRow_read (in1 : Addr) (k : RegionKind) (u : Nat) (off : Addr) :
    firstRow in1 (mkT 0 k.code 0 off) = some (decodeRead in1 (readTxn k u off)).rowNumber := by
  obtain ⟨hstd, halt, hin, hguw⟩ := offRows_read_window
  rw [firstRow_mkT]
  cases k with
  | irqcauseStd =>
    rw [hstd, decodeRead_irqcauseStd, pickRow_exact (by decide), pickRow_exact (by decide), pickRow_window (by decide),
      pickRow_open (by decide)]
    split_ifs <;> simp_all [Instr.rowNumber]
  | irqcauseAlt =>
    rw [halt, decodeRead_irqcauseAlt, pickRow_exact (by decide), pickRow_window (by decide), pickRow_open (by decide)]
    split_ifs <;> simp_all [Instr.rowNumber]
  | inputStd =>
    rw [hin, decodeRead_inputStd, pickRow_exact (by decide), pickRow_exact (by decide), pickRow_open (by decide)]
    split_ifs <;> rfl
  | inputGuw =>
    rw [hguw, decodeRead_inputGuw, pickRow_exact (by decide), pickRow_in1, pickRow_open (by decide)]
    split_ifs <;> rfl
  | _ =>
    simp only [decodeRead, readTxn, tCode_mkT, tOff_mkT, regionOfCode_code, Instr.rowNumber]
    exact pickRow_of_head (by decide) (by decide)

/-- A write to a region selects the row of the operation it decodes to. -/
theorem firstRow_write (in1 : Addr) (k : RegionKind) (u : Nat) (off : Addr) (w : Word32) :
    firstRow in1 (mkT 1 k.code 0 off) = some (decodeWrite (writeTxn k u off w)).rowNumber := by
  rw [firstRow_mkT]
  cases k with
  | sound =>
    have hrows : offRows ((1 : BitVec 2) ++ RegionKind.sound.code ++ (0 : BitVec 2)) =
        [(33, 2, 0), (34, 2, 2), (38, 0, 0)] := by decide
    rw [hrows, decodeWrite_sound, pickRow_port (by decide) (by decide)]
    split_ifs <;> rfl
  | _ =>
    simp only [decodeWrite, writeTxn, tCode_mkT, tOff_mkT, regionOfCode_code, Instr.rowNumber]
    exact pickRow_of_head (by decide) (by decide)

section
variable (in1 : Addr) {t : Word32}

theorem firstRow_rsvdRead (hk : tKind t = 0) (hz : tZero t ≠ 0) : firstRow in1 t = some 24 := by
  have hrows : ∀ (c : BitVec 4) (z : BitVec 2), z ≠ 0 → (offRows ((0 : BitVec 2) ++ c ++ z)).head? = some (24, 0, 0) := by
    decide
  rw [← mkT_fields t, hk, firstRow_mkT]
  exact pickRow_of_head (by decide) (hrows _ _ hz)

theorem firstRow_rsvdWrite (hk : tKind t = 1) (hz : tZero t ≠ 0) : firstRow in1 t = some 38 := by
  have hrows : ∀ (c : BitVec 4) (z : BitVec 2), z ≠ 0 → (offRows ((1 : BitVec 2) ++ c ++ z)).head? = some (38, 0, 0) := by
    decide
  rw [← mkT_fields t, hk, firstRow_mkT]
  exact pickRow_of_head (by decide) (hrows _ _ hz)

theorem firstRow_reserved (hk : tKind t = 3) : firstRow in1 t = none := by
  have hrows : ∀ (c : BitVec 4) (z : BitVec 2), offRows ((3 : BitVec 2) ++ c ++ z) = [] := by decide
  rw [← mkT_fields t, hk, firstRow_mkT, hrows]
  rfl

/-- The rows of the events stand in the order of their codes. -/
theorem firstRow_event (hk : tKind t = 2) (hc : (tCode t).toNat < 7) : firstRow in1 t = some (39 + (tCode t).toNat) := by
  have hrows : ∀ (c : BitVec 4) (z : BitVec 2), c.toNat < 7 →
      (offRows ((2 : BitVec 2) ++ c ++ z)).head? = some (39 + c.toNat, 0, 0) := by decide
  rw [← mkT_fields t, hk, firstRow_mkT, tCode_mkT]
  exact pickRow_of_head (by omega) (hrows _ _ hc)

theorem firstRow_reservedEvent (hk : tKind t = 2) (hc : 7 ≤ (tCode t).toNat) : firstRow in1 t = none := by
  have hrows : ∀ (c : BitVec 4) (z : BitVec 2), 7 ≤ c.toNat → offRows ((2 : BitVec 2) ++ c ++ z) = [] := by decide
  rw [← mkT_fields t, hk, firstRow_mkT, hrows _ _ hc]
  rfl

end

theorem rowNumber_of_eventsByCode {arg : Bool} {n : Nat} {i : Instr} (h : (eventsByCode arg)[n]? = some i) :
    i.rowNumber = 39 + n := by
  have hlt : n < 7 := (List.getElem?_eq_some_iff.mp h).1
  interval_cases n <;> cases h <;> rfl

/-- Settles O2: the word by its shape, an event by whether its code has one. -/
theorem decoderAnswersFirstMatchingRow : Obligations.DecoderAnswersFirstMatchingRow := by
  rintro in1 ⟨t, u, w⟩
  cases wordShape t with
  | read k off =>
    rw [decode_region_read]
    exact firstRow_read in1 k u off
  | write k off =>
    rw [decode_region_write]
    exact firstRow_write in1 k u off w
  | rsvdRead hk hz =>
    rw [decode_of_rsvdRead hk hz]
    exact firstRow_rsvdRead in1 hk hz
  | rsvdWrite hk hz =>
    rw [decode_of_rsvdWrite hk hz]
    exact firstRow_rsvdWrite in1 hk hz
  | reserved hk =>
    rw [decode_of_reserved hk]
    exact firstRow_reserved in1 hk
  | event hk =>
    rw [decode_of_event hk]
    by_cases hc : (tCode t).toNat < 7
    · obtain ⟨i, hi⟩ : ∃ i, (eventsByCode (t.getLsbD 0))[(tCode t).toNat]? = some i := ⟨_, List.getElem?_eq_getElem hc⟩
      rw [decodeEvent_of_eventsByCode hi]
      exact (firstRow_event in1 hk hc).trans (congrArg some (rowNumber_of_eventsByCode hi).symm)
    · rw [decodeEvent_of_reserved (Nat.not_lt.mp hc)]
      exact firstRow_reservedEvent in1 hk (Nat.not_lt.mp hc)

end Sys2Proof
end

section
/-! SUPPORT. What a well-formed configuration selects: no reserved row, layers of its variant only, and, where its tables contain
what R127 lists, every kind and layer listed (44_dispatcher.md R122, R127; 30_encoding.md R61 (b)). -/

namespace Sys2Proof.Machine

open Sys2Proof Sys2Proof.Safety

/-! ## Reserved rows -/

/-- The word of a kind that a read table may hold, or of no match, is no reserved read. -/
theorem decodeRead_ne_rdRsvd {k : RegionKind} (hk : k = .unmapped ∨ readable k = true) (in1 : Addr) (u : Nat) (off : Addr)
    (bits : BitVec 30) : decodeRead in1 (readTxn k u off) ≠ .rdRsvd bits := by
  simp only [decodeRead, readTxn, tCode_mkT, tOff_mkT, regionOfCode_code]
  cases k with
  | inputStd | inputGuw | irqcauseStd | irqcauseAlt => dsimp only; split_ifs <;> nofun
  | eepromStd | eepromGuw => simp [readable] at hk
  | _ => nofun

/-- The word of a kind that a write table may hold, or of no match, is no reserved write. -/
theorem decodeWrite_ne_wrRsvd {k : RegionKind} (hk : k = .unmapped ∨ writable k = true) (u : Nat) (off : Addr) (w : Word32)
    (bits : BitVec 30) (v : Word32) : decodeWrite (writeTxn k u off w) ≠ .wrRsvd bits v := by
  simp only [decodeWrite, writeTxn, tCode_mkT, tOff_mkT, regionOfCode_code]
  cases k with
  | sound => dsimp only; split_ifs <;> nofun
  | inputStd | inputGuw | irqcauseStd | irqcauseAlt => simp [writable] at hk
  | _ => nofun

/-- WF4 keeps the reserved reads out of the read table. -/
theorem decode_busRead_ne_rdRsvd {c : Config} (h : wf4 readable c.rtab = true) (in1 addr : Addr) (bits : BitVec 30) :
    decode in1 (busRead c addr) ≠ .ok (.rdRsvd bits) := by
  rw [busRead, decode_readTxn]
  exact fun he => decodeRead_ne_rdRsvd (lookup_kind_allowed addr h) _ _ _ _ (Except.ok.inj he)

/-- WF4 keeps the reserved writes out of the write table. -/
theorem decode_busWrite_ne_wrRsvd {c : Config} (h : wf4 writable c.wtab = true) (in1 addr : Addr) (w : Word32)
    (bits : BitVec 30) (v : Word32) : decode in1 (busWrite c addr w) ≠ .ok (.wrRsvd bits v) := by
  rw [busWrite, decode_writeTxn]
  exact fun he => decodeWrite_ne_wrRsvd (lookup_kind_allowed addr h) _ _ _ _ _ (Except.ok.inj he)

/-! ## Layers -/

theorem vramKindOf_eq_vram8_iff {c : Config} {layer : Nat} :
    vramKindOf c layer = .vram8 ↔ c.variant = .ddonpach ∧ layer = c.ddpMirrorLayer := by
  unfold vramKindOf
  split_ifs with h <;> simp [h]

/-- WF5 on a VRAM entry: the layer exists, and the kind is that layer's. -/
theorem wf5Entry_vram {c : Config} {e : Entry} (h : wf5Entry c e = true) (hk : e.kind = .vram16 ∨ e.kind = .vram8) :
    e.unit < nLayersOf c.variant ∧ e.kind = vramKindOf c e.unit := by
  rcases hk with hk | hk
  · simp only [wf5Entry, hk, Bool.and_eq_true, Nat.blt_eq, Bool.not_eq_true', Bool.and_eq_false_iff,
      beq_eq_false_iff_ne] at h
    obtain ⟨hlt, hne⟩ := h
    exact ⟨hlt, hk.trans (if_neg (by tauto)).symm⟩
  · simp only [wf5Entry, hk, Bool.and_eq_true, Nat.blt_eq, beq_iff_eq] at h
    obtain ⟨hmirror, hlt⟩ := h
    exact ⟨hlt, hk.trans (vramKindOf_eq_vram8_iff.mpr hmirror).symm⟩

/-- A VRAM access through a table that passes WF5 reaches a layer of the variant, by that layer's kind. -/
theorem lookup_vram {c : Config} {tab : List Entry} (h : wf5 c tab = true) {addr : Addr}
    (hk : (lookup tab addr).kind = .vram16 ∨ (lookup tab addr).kind = .vram8) :
    (lookup tab addr).unit < nLayersOf c.variant ∧ (lookup tab addr).kind = vramKindOf c (lookup tab addr).unit := by
  rcases lookup_cases tab addr with ⟨e, he, _, hl⟩ | ⟨_, hl⟩
  · rw [hl] at hk ⊢
    exact wf5Entry_vram (List.all_eq_true.mp h e he) hk
  · rw [hl] at hk
    simp at hk

/-- Among the layers of the variant the mirrored one occurs once, and only `DDONPACH` has it (00_scope.md R3, column VRAM8). -/
theorem count_vram8 {c : Config} (h : c.variant = .ddonpach → c.ddpMirrorLayer < nLayersOf c.variant) :
    ((List.range (nLayersOf c.variant)).map (vramKindOf c)).count .vram8 = if c.variant = .ddonpach then 1 else 0 := by
  split_ifs with hv
  · have hlayer : ∀ layer, (vramKindOf c layer == .vram8) = true ↔ (layer == c.ddpMirrorLayer) = true := fun layer => by
      rw [beq_iff_eq, beq_iff_eq, vramKindOf_eq_vram8_iff, and_iff_right hv]
    calc ((List.range (nLayersOf c.variant)).map (vramKindOf c)).count .vram8
        = (List.range (nLayersOf c.variant)).countP (vramKindOf c · == .vram8) := List.countP_map
      _ = (List.range (nLayersOf c.variant)).count c.ddpMirrorLayer := List.countP_congr fun layer _ => hlayer layer
      _ = 1 := List.count_eq_one_of_mem List.nodup_range (List.mem_range.mpr (h hv))
  · rw [List.count_eq_zero]
    intro hmem
    obtain ⟨layer, _, hk⟩ := List.mem_map.mp hmem
    exact hv (vramKindOf_eq_vram8_iff.mp hk).1

/-! ## What the tables route -/

/-- The parts of R127, apart. -/
theorem routesVariant_iff {c : Config} :
    routesVariant c = true ↔
      (∀ k ∈ readKindsOf c.variant, routes c.rtab k = true) ∧ (∀ k ∈ writeKindsOf c.variant, routes c.wtab k = true)
        ∧ (∀ layer, layer < nLayersOf c.variant → routesLayer c.rtab (vramKindOf c layer) layer = true
          ∧ routesLayer c.wtab (vramKindOf c layer) layer = true ∧ routesLayer c.wtab .layerctrl layer = true)
        ∧ (c.variant = .ddonpach → c.ddpMirrorLayer < nLayersOf c.variant) := by
  simp [routesVariant, routesLayers, and_assoc, ← imp_iff_not_or]

section
variable {c : Config} {allowed : RegionKind → Bool} {tab : List Entry} {k : RegionKind}

/-- A routed kind is reached at offset 0, by the first address of its entry. -/
theorem exists_lookup_of_routes (hw : wfTable c allowed tab = true) (h : routes tab k = true) :
    ∃ addr u, addr.getLsbD 0 = false ∧ lookup tab addr = ⟨k, u, 0⟩ := by
  obtain ⟨e, he, hk⟩ := List.any_eq_true.mp h
  obtain rfl := beq_iff_eq.mp hk
  obtain ⟨addr, heven, hl⟩ := lookup_start hw he
  exact ⟨addr, e.unit, heven, hl⟩

/-- A kind routed for a layer is reached for that layer. -/
theorem exists_lookup_of_routesLayer {layer : Nat} (hw : wfTable c allowed tab = true)
    (h : routesLayer tab k layer = true) : ∃ addr, addr.getLsbD 0 = false ∧ lookup tab addr = ⟨k, layer, 0⟩ := by
  obtain ⟨e, he, hk⟩ := List.any_eq_true.mp h
  simp only [Bool.and_eq_true, beq_iff_eq] at hk
  obtain ⟨rfl, rfl⟩ := hk
  exact lookup_start hw he

variable {addr : Addr} {u : Nat} {off : Addr}

theorem busRead_of_lookup (h : lookup c.rtab addr = ⟨k, u, off⟩) : busRead c addr = readTxn k u off := by
  rw [busRead, h]

theorem busWrite_of_lookup (h : lookup c.wtab addr = ⟨k, u, off⟩) (w : Word32) :
    busWrite c addr w = writeTxn k u off w := by
  rw [busWrite, h]

end

/-- Settles O11: WF4 for the reserved rows, WF5 for the layers, and the first address of each routed entry. -/
theorem wellFormedConfigSelectsTheVariantsRows : Obligations.WellFormedConfigSelectsTheVariantsRows := by
  intro c hc
  obtain ⟨hr, hw, _⟩ := configOk_iff.mp hc
  obtain ⟨_, _, _, hr4, hr5, _⟩ := wfTable_iff.mp hr
  obtain ⟨_, _, _, hw4, hw5, _⟩ := wfTable_iff.mp hw
  refine ⟨fun addr w => ⟨decode_busRead_ne_rdRsvd hr4 _ addr, decode_busWrite_ne_wrRsvd hw4 _ addr w⟩, ?_, fun hroutes => ?_⟩
  · rintro addr _ (rfl | rfl)
    · exact lookup_vram hr5
    · exact lookup_vram hw5
  · obtain ⟨hreads, hwrites, hlayers, hmirror⟩ := routesVariant_iff.mp hroutes
    refine ⟨fun k hk => ?_, fun k hk => ?_, fun layer hlt => ?_, count_vram8 hmirror⟩
    · obtain ⟨addr, u, heven, hl⟩ := exists_lookup_of_routes hr (hreads k hk)
      exact ⟨addr, u, heven, busRead_of_lookup hl⟩
    · obtain ⟨addr, u, heven, hl⟩ := exists_lookup_of_routes hw (hwrites k hk)
      exact ⟨addr, u, heven, busWrite_of_lookup hl⟩
    · obtain ⟨hvread, hvwrite, hctrl⟩ := hlayers layer hlt
      obtain ⟨a₁, he₁, hl₁⟩ := exists_lookup_of_routesLayer hr hvread
      obtain ⟨a₂, he₂, hl₂⟩ := exists_lookup_of_routesLayer hw hvwrite
      obtain ⟨a₃, he₃, hl₃⟩ := exists_lookup_of_routesLayer hw hctrl
      exact ⟨⟨a₁, he₁, busRead_of_lookup hl₁⟩, ⟨a₂, he₂, busWrite_of_lookup hl₂⟩, a₃, he₃, busWrite_of_lookup hl₃⟩

/-! ## Unmapped and reserved operations -/

/-- An operation that does what an unmapped read does returns the next draw (44_dispatcher.md R123). -/
theorem exec_of_readDraw {i : Instr} {s : State} (h : exec i s = .next (readDraw s)) :
    exec i s = .next { s with rdata := some (Config.drawWord s.draws), draws := s.draws + 1 } := by
  rw [h, readDraw_eq]

/-- The second of two unmapped reads takes the draw after the first one's. -/
theorem runOps_two_rdUnmapped (addr : Addr) (s : State) :
    runOps [.rdUnmapped addr, .rdUnmapped addr] s =
      .next { s with rdata := some (Config.drawWord (s.draws + 1)), draws := s.draws + 2 } := by
  calc runOps [.rdUnmapped addr, .rdUnmapped addr] s
      = .next (readDraw (readDraw s)) := rfl
    _ = .next { s with rdata := some (Config.drawWord (s.draws + 1)), draws := s.draws + 2 } := by
      rw [readDraw_eq, readDraw_eq]

/-- Settles O53: an unmapped and a reserved read are both `readDraw`, and a reserved write is the identity. -/
theorem unmappedReadsReturnADraw : Obligations.UnmappedReadsReturnADraw :=
  fun addr _ _ s => ⟨exec_of_readDraw rfl, exec_of_readDraw rfl, rfl, runOps_two_rdUnmapped addr s⟩

end Sys2Proof.Machine
end

section
/-! SUPPORT. The interrupt-cause latch (41_irq_cause.md R70 to R80): what a flag update with `UpdateIrq` leaves, the cause values as
R57 writes them, the events and the cause reads as record updates, and that the line is the OR of the flags. -/

namespace Sys2Proof.Machine

open Sys2Proof Sys2Proof.Safety

/-! ## A flag, then the line -/

theorem updateIrq_setVblank_true (s : State) :
    updateIrq (s.setVblank true) = { s with vblankPending := true, irqLine := true } := updateIrq_eq _

theorem updateIrq_setVblank_false (s : State) :
    updateIrq (s.setVblank false) = { s with vblankPending := false, irqLine := s.soundPending || s.unknownPending } :=
  updateIrq_eq _

theorem updateIrq_setSound (s : State) (b : Bool) :
    updateIrq (s.setSound b) = { s with soundPending := b, irqLine := s.vblankPending || b || s.unknownPending } :=
  updateIrq_eq _

theorem updateIrq_setUnknown_true (s : State) :
    updateIrq (s.setUnknown true) = { s with unknownPending := true, irqLine := true } := by
  simp [updateIrq_eq, State.setUnknown]

theorem updateIrq_setUnknown_false (s : State) :
    updateIrq (s.setUnknown false) = { s with unknownPending := false, irqLine := s.vblankPending || s.soundPending } := by
  simp [updateIrq_eq, State.setUnknown]

/-! ## The cause values -/

/-- Clearing one bit per pending flag is the formula of 30_encoding.md R57. -/
theorem clearIf_clearIf_eq_stdCause (vblank unknown : Bool) :
    clearIf unknown 0xFFFD (clearIf vblank 0xFFFE 0x0003) = stdCause vblank unknown := by
  revert vblank unknown
  decide

theorem clearIf_eq_altCause (vblank : Bool) : clearIf vblank 0xFFFE 0x0007 = altCause vblank := by
  revert vblank
  decide

theorem causeStd_eq (s : State) : causeStd s = stdCause s.vblankPending s.unknownPending :=
  clearIf_clearIf_eq_stdCause _ _

theorem causeAlt_eq (s : State) : causeAlt s = altCause s.vblankPending := clearIf_eq_altCause _

/-! ## The events -/

/-- Settles O14: the flag is set, so the line is asserted whatever the other flags are. -/
theorem vblankSetsItsFlagAndTheLine : Obligations.VblankSetsItsFlagAndTheLine :=
  fun s => congrArg Host.Outcome.next (updateIrq_setVblank_true s)

/-- Settles O15: the flag follows the argument, and the line the flags. -/
theorem soundFlagFollowsTheEventsLevel : Obligations.SoundFlagFollowsTheEventsLevel :=
  fun s active => congrArg Host.Outcome.next (updateIrq_setSound s active)

/-- Settles O16: the event by the variant's protocol. -/
theorem unknownSourceSetsItsFlagOnlyInStd : Obligations.UnknownSourceSetsItsFlagOnlyInStd := by
  refine fun s => ⟨fun hstd => ?_, fun halt => ?_⟩
  · rw [exec_evUnknown_of_std hstd, updateIrq_setUnknown_true]
  · have hne : protoOf s.cfg.variant ≠ .std := by simp [halt]
    rw [exec_evUnknown_of_tiedOff hne, updateIrq_eq]

/-- EV.UNKNOWN in both protocols: the third flag is raised where the source is not tied off, and is kept where it is. -/
theorem exec_evUnknown_eq (s : State) :
    exec .evUnknown s =
      .next (updateIrq (s.setUnknown (s.unknownPending || decide (protoOf s.cfg.variant = .std)))) := by
  by_cases hstd : protoOf s.cfg.variant = .std
  · rw [exec_evUnknown_of_std hstd, decide_eq_true hstd, Bool.or_true]
  · rw [exec_evUnknown_of_tiedOff hstd, decide_eq_false hstd, Bool.or_false]
    rfl

/-- A run of one operation is the operation. -/
theorem runOps_singleton (i : Instr) (s : State) : runOps [i] s = exec i s := by
  unfold runOps
  cases exec i s <;> rfl

/-- A run of two operations, of which the first completes, is the second from where the first leads. -/
theorem runOps_pair {i j : Instr} {s t : State} (h : exec i s = .next t) : runOps [i, j] s = exec j t := by
  rw [← runOps_singleton j t, ← runOps_append [i] [j] ((runOps_singleton i s).trans h), List.singleton_append]

/-- Settles O24: each event sets a flag of its own from that flag and its operand alone, and the line is formed anew from all
three, so what an earlier event made of it is lost. -/
theorem interruptEventsCommuteAndMerge : Obligations.InterruptEventsCommuteAndMerge := by
  intro s a b
  have hvblank := vblankSetsItsFlagAndTheLine s
  have hsound := soundFlagFollowsTheEventsLevel s a
  have hunknown := exec_evUnknown_eq s
  refine ⟨?_, ?_, ?_, ?_, ?_⟩
  · rw [runOps_pair hvblank, runOps_pair hsound]
    rfl
  · rw [runOps_pair hvblank, runOps_pair hunknown, exec_evUnknown_eq]
    rfl
  · rw [runOps_pair hunknown, runOps_pair hsound, exec_evUnknown_eq]
    rfl
  · rw [runOps_pair hsound, runOps_singleton]
    rfl
  · rw [runOps_pair hvblank, runOps_singleton]
    rfl

/-! ## The cause reads -/

section
variable (s : State) (off : Addr)

/-- RD.CAUSE.STD.PEEK (41_irq_cause.md R73). -/
theorem exec_rdCauseStdPeek : exec (.rdCauseStdPeek off) s =
    .next { s with
      irqLine := s.vblankPending || s.soundPending || s.unknownPending
      rdata := some (stdCause s.vblankPending s.unknownPending) } := by
  rw [← causeStd_eq]
  rfl

/-- RD.CAUSE.STD.ACKV (41_irq_cause.md R74). -/
theorem exec_rdCauseStdAckv : exec .rdCauseStdAckv s =
    .next { s with
      vblankPending := false
      irqLine := s.soundPending || s.unknownPending
      rdata := some (stdCause s.vblankPending s.unknownPending) } := by
  change Host.Outcome.next ((updateIrq (s.setVblank false)).answer (causeStd s)) = _
  rw [updateIrq_setVblank_false, causeStd_eq]
  rfl

/-- RD.CAUSE.STD.ACKU (41_irq_cause.md R75). -/
theorem exec_rdCauseStdAcku : exec .rdCauseStdAcku s =
    .next { s with
      unknownPending := false
      irqLine := s.vblankPending || s.soundPending
      rdata := some (stdCause s.vblankPending s.unknownPending) } := by
  change Host.Outcome.next ((updateIrq (s.setUnknown false)).answer (causeStd s)) = _
  rw [updateIrq_setUnknown_false, causeStd_eq]
  rfl

/-- RD.CAUSE.ALT.ACKV (41_irq_cause.md R76). -/
theorem exec_rdCauseAltAckv : exec .rdCauseAltAckv s =
    .next { s with
      vblankPending := false
      irqLine := s.soundPending || s.unknownPending
      rdata := some (altCause s.vblankPending) } := by
  change Host.Outcome.next ((updateIrq (s.setVblank false)).answer (causeAlt s)) = _
  rw [updateIrq_setVblank_false, causeAlt_eq]
  rfl

/-- RD.CAUSE.ALT.PEEK (41_irq_cause.md R77). -/
theorem exec_rdCauseAltPeek : exec (.rdCauseAltPeek off) s =
    .next { s with
      irqLine := s.vblankPending || s.soundPending || s.unknownPending
      rdata := some (altCause s.vblankPending) } := by
  rw [← causeAlt_eq]
  rfl

end

/-- Settles O17: the four offsets decode to their rows, and each row is the record update stated. -/
theorem standardCauseReads : Obligations.StandardCauseReads := by
  intro in1 u s
  refine ⟨?_, ?_, exec_rdCauseStdAckv s, ?_, exec_rdCauseStdAcku s⟩
  · rintro off (rfl | rfl) <;>
      exact ⟨by rw [decode_readTxn, decodeRead_irqcauseStd]; rfl, exec_rdCauseStdPeek s _⟩
  · rw [decode_readTxn, decodeRead_irqcauseStd, if_pos rfl]
  · rw [decode_readTxn, decodeRead_irqcauseStd]
    rfl

/-- Settles O18: the four offsets decode to their rows, and each row is the record update stated. -/
theorem alternateCauseReads : Obligations.AlternateCauseReads := by
  intro in1 u s
  refine ⟨?_, ?_, exec_rdCauseAltAckv s⟩
  · rintro off (rfl | rfl | rfl) <;>
      exact ⟨by rw [decode_readTxn, decodeRead_irqcauseAlt]; rfl, exec_rdCauseAltPeek s _⟩
  · rw [decode_readTxn, decodeRead_irqcauseAlt, if_pos rfl]

/-- Settles O25: after the tick only the vblank flag is pending, so the read that clears it leaves no flag, and a peek leaves
it. -/
theorem acknowledgeDropsTheVblankLine : Obligations.AcknowledgeDropsTheVblankLine := by
  intro s hsound hunknown
  have hnone : (s.soundPending || s.unknownPending) = false := by rw [hsound, hunknown]; rfl
  have hstd : some (stdCause true s.unknownPending) = some 0x0002 := by rw [hunknown]; rfl
  have halt : some (altCause true) = some 0x0006 := by decide
  exact ⟨_, _, _, _, _, vblankSetsItsFlagAndTheLine s, rfl,
    exec_rdCauseStdAckv _, hnone, hstd,
    exec_rdCauseAltAckv _, hnone, halt,
    exec_rdCauseStdPeek _ 0, rfl, hstd,
    exec_rdCauseAltPeek _ 4, rfl, halt⟩

/-! ## The line -/

/-- An operation either drives the line to the OR of the flags, or leaves the flags and the line alone (41_irq_cause.md R78,
R80). -/
theorem Effect.line_cases {i : Instr} {s t : State} (h : Effect s i t) :
    LineAgrees t
      ∨ t.irqLine = s.irqLine
        ∧ (t.vblankPending, t.soundPending, t.unknownPending) = (s.vblankPending, s.soundPending, s.unknownPending) := by
  cases h with
  | latched | read | restarted => exact .inl rfl
  | _ => exact .inr ⟨rfl, rfl⟩

/-- No operation takes the line away from the OR of the flags. -/
theorem Effect.keeps_line {i : Instr} {s t : State} (h : Effect s i t) (hs : LineAgrees s) : LineAgrees t := by
  rcases h.line_cases with ht | ⟨hline, hflags⟩
  · exact ht
  · obtain ⟨hv, hn, hu⟩ : t.vblankPending = s.vblankPending ∧ t.soundPending = s.soundPending
        ∧ t.unknownPending = s.unknownPending := by simpa using hflags
    rw [LineAgrees, hline, hv, hn, hu, hs]

/-- Settles O21: an operation that leaves the line as it was leaves the flags too. -/
theorem lineIsTheOrOfTheFlags : Obligations.LineIsTheOrOfTheFlags := by
  intro i s t h
  have heffect := exec_effect h
  exact ⟨heffect.keeps_line, fun hchanged => heffect.line_cases.resolve_right fun ⟨_, hflags⟩ => hchanged hflags⟩

end Sys2Proof.Machine
end

section
/-! SUPPORT. The block's invariant (41_irq_cause.md R80, R72; 42_eeprom.md R94, R99, R100; 10_state.md R15): what the setters of the
reference core keep of its command register, the EEPROM's three parts together, and every operation. -/

namespace Sys2Proof.Machine

open Sys2Proof Sys2Proof.Safety

/-! ## The command register of the reference core -/

/-- A command being entered that is not complete: at most 24 bits, the first of them the start bit, nine or more of them only of a
WRITE (42_eeprom.md R99, R100). These are the first three clauses of `CommandOpen`. -/
structure CommandBits (sr : List Bool) : Prop where
  length_le : sr.length ≤ 24
  start     : sr ≠ [] → sr.getD 0 false = true
  write     : 9 ≤ sr.length → eerefOpcode sr = (false, true)

/-- The serial interface between two operations: an incomplete command, empty while data is being sent and while chip-select is
asserted. `CommandOpen` as a predicate of the core's state, as `commandOpen_iff` says. -/
structure EeRef.Open (r : EeRef) : Prop where
  bits     : CommandBits r.sr
  sending  : r.sending = true → r.sr = []
  selected : r.cs = true → r.sr = [] ∧ r.sending = false

theorem commandOpen_iff {s : State} : CommandOpen s ↔ (s.cfg.eecore = .eeref → s.eeCore.ref.Open) := by
  refine ⟨fun h hk => ?_, fun h hk => ?_⟩
  · obtain ⟨hlen, hstart, hwrite, hsending, hselected⟩ := h hk
    exact ⟨⟨hlen, hstart, hwrite⟩, hsending, hselected⟩
  · obtain ⟨⟨hlen, hstart, hwrite⟩, hsending, hselected⟩ := h hk
    exact ⟨hlen, hstart, hwrite, hsending, hselected⟩

theorem commandBits_nil : CommandBits [] := ⟨by simp, by simp, by simp⟩

/-- An interface that is reset has no command open (42_eeprom.md R95, R97). -/
theorem EeRef.Open.of_reset {r : EeRef} (hsr : r.sr = []) (hsending : r.sending = false) : r.Open :=
  ⟨hsr ▸ commandBits_nil, fun _ => hsr, fun _ => ⟨hsr, hsending⟩⟩

/-- Appending a bit keeps the opcode of a command that has one. -/
theorem eerefOpcode_append {sr : List Bool} (h : 3 ≤ sr.length) (bits : List Bool) :
    eerefOpcode (sr ++ bits) = eerefOpcode sr := by
  rw [eerefOpcode, List.getD_append _ _ _ _ (by omega), List.getD_append _ _ _ _ (by omega), eerefOpcode]

/-- Appending a bit keeps the start bit; to an empty register only a start bit is appended (42_eeprom.md R99). -/
theorem CommandBits.start_append {sr : List Bool} {b : Bool} (h : CommandBits sr) (hb : ¬(sr = [] ∧ b = false)) :
    (sr ++ [b]).getD 0 false = true := by
  cases sr with
  | nil => simpa using hb
  | cons x xs => simpa using h.start

/-- An appended bit leaves a command incomplete unless it is the ninth of another command than WRITE, or the 25th of a WRITE. -/
theorem CommandBits.append {sr : List Bool} {b : Bool} (h : CommandBits sr) (hb : ¬(sr = [] ∧ b = false))
    (hninth : (sr ++ [b]).length = 9 → eerefOpcode (sr ++ [b]) = (false, true))
    (hlast : ¬((sr ++ [b]).length = 25 ∧ eerefOpcode (sr ++ [b]) = (false, true))) : CommandBits (sr ++ [b]) := by
  have hlen : (sr ++ [b]).length = sr.length + 1 := List.length_append
  have hle := h.length_le
  have hwrite : 9 ≤ (sr ++ [b]).length → eerefOpcode (sr ++ [b]) = (false, true) := fun h9 => by
    by_cases heq : (sr ++ [b]).length = 9
    · exact hninth heq
    · exact (eerefOpcode_append (by omega) [b]).trans (h.write (by omega))
  refine ⟨?_, fun _ => h.start_append hb, hwrite⟩
  by_contra hgt
  exact hlast ⟨by omega, hwrite (by omega)⟩

/-- `Match` either completes a command and empties the register, or finds none complete and changes nothing (42_eeprom.md
R100). -/
theorem eerefMatch_command (nv : List Byte) (r : EeRef) :
    (eerefMatch nv r).2.sr = []
      ∨ (eerefMatch nv r).2 = r ∧ (r.sr.length = 9 → eerefOpcode r.sr = (false, true))
        ∧ ¬(r.sr.length = 25 ∧ eerefOpcode r.sr = (false, true)) := by
  unfold eerefMatch
  dsimp only
  split
  · next h9 =>
    split
    · exact .inl rfl
    · exact .inl rfl
    · split <;> exact .inl rfl
    · next ho => exact .inr ⟨rfl, fun _ => ho, fun ⟨h25, _⟩ => by omega⟩
  · next h9 =>
    split
    · exact .inl rfl
    · next h25 => exact .inr ⟨rfl, fun h => absurd h h9, h25⟩

section
variable {r : EeRef}

/-- A clock edge, which needs chip-select released, leaves no complete command. -/
theorem EeRef.Open.clockEdge (h : r.Open) (hcs : r.cs = false) (nv : List Byte) :
    (eerefClockEdge nv r).2.Open := by
  have hreleased : (eerefClockEdge nv r).2.cs ≠ true := by
    obtain ⟨_, hlevel, _⟩ := eerefClockEdge_levels nv r
    simp [hlevel, hcs]
  suffices hopen : CommandBits (eerefClockEdge nv r).2.sr
      ∧ ((eerefClockEdge nv r).2.sending = true → (eerefClockEdge nv r).2.sr = []) by
    obtain ⟨hbits, hsending⟩ := hopen
    exact ⟨hbits, hsending, fun hselected => absurd hselected hreleased⟩
  unfold eerefClockEdge
  split
  · exact ⟨h.bits, h.sending⟩
  · next hsending =>
    split
    · exact ⟨h.bits, h.sending⟩
    · next hbit =>
      rcases eerefMatch_command nv { r with sr := r.sr ++ [r.di] } with hsr | ⟨hsame, hninth, hlast⟩
      · exact ⟨by rw [hsr]; exact commandBits_nil, fun _ => hsr⟩
      · rw [hsame]
        exact ⟨h.bits.append hbit hninth hlast, fun hs => absurd hs hsending⟩

theorem EeRef.Open.wrbit (h : r.Open) (b : Bool) : (eerefWrbit r b).Open :=
  ⟨h.bits, h.sending, h.selected⟩

theorem EeRef.Open.setcs (h : r.Open) (a : Bool) : (eerefSetcs r a).Open := by
  cases a with
  | true => exact .of_reset rfl rfl
  | false => exact ⟨h.bits, h.sending, nofun⟩

theorem EeRef.Open.setclk (h : r.Open) (nv : List Byte) (old new : Bool) :
    (eerefSetclk nv r old new).2.Open := by
  have hlevel : EeRef.Open { r with clk := new } := ⟨h.bits, h.sending, h.selected⟩
  unfold eerefSetclk
  dsimp only
  split
  · next hedge =>
    obtain ⟨_, _, hcs⟩ := hedge
    exact hlevel.clockEdge hcs nv
  · exact hlevel

end

/-! ## The EEPROM -/

/-- Chip-select's setter keeps the other two level copies (42_eeprom.md R97). -/
theorem eerefSetcs_levels (r : EeRef) (a : Bool) :
    (eerefSetcs r a).di = r.di ∧ (eerefSetcs r a).cs = a ∧ (eerefSetcs r a).clk = r.clk := by
  cases a <;> exact ⟨rfl, rfl, rfl⟩

/-- The EEPROM's part of the invariant. -/
structure EepromInv (s : State) : Prop where
  array   : ArrayWhole s
  copies  : CopiesAgree s
  command : CommandOpen s

/-- What a drive does to the reference core: the three setters one after another (42_eeprom.md R87). -/
theorem eeDrive_ref {s : State} (hk : s.cfg.eecore = .eeref) (di cs clk : Bool) :
    (eeDrive s di cs clk).eeCore.ref =
      (eerefSetclk s.eeCore.nv (eerefSetcs (eerefWrbit s.eeCore.ref di) cs) s.eeClk clk).2 := by
  simp only [eeDrive_eq, hk, coreSetclk, coreSetcs, coreWrbit]

/-- No drive changes the size of the array. -/
theorem eeDrive_length (s : State) (di cs clk : Bool) :
    (eeDrive s di cs clk).eeCore.nv.length = s.eeCore.nv.length := by
  simp only [eeDrive_eq, coreSetclk_length, coreSetcs_length, coreWrbit_length]

/-- A drive hands each level to its latch and to the core's copy of it. -/
theorem EepromInv.drive {s : State} (h : EepromInv s) (di cs clk : Bool) : EepromInv (eeDrive s di cs clk) where
  array := (eeDrive_length s di cs clk).trans h.array
  copies hk := by
    rw [eeDrive_ref (s := s) hk]
    obtain ⟨hdi, hcs, hclk⟩ :=
      eerefSetclk_levels s.eeCore.nv (eerefSetcs (eerefWrbit s.eeCore.ref di) cs) s.eeClk clk
    obtain ⟨hdi', hcs', _⟩ := eerefSetcs_levels (eerefWrbit s.eeCore.ref di) cs
    exact ⟨hdi.trans hdi', hcs.trans hcs', hclk⟩
  command := commandOpen_iff.mpr fun hk => by
    rw [eeDrive_ref (s := s) hk]
    exact (((commandOpen_iff.mp h.command hk).wrbit di).setcs cs).setclk s.eeCore.nv s.eeClk clk

/-- A restart around an array of the right size establishes the EEPROM's part, whatever was before. -/
theorem eepromInv_eeRestart {s : State} {b : List Byte} (hb : b.length = s.cfg.nvBytes) : EepromInv (eeRestart s b) where
  array := (congrArg List.length (eeRestart_nv s b)).trans hb
  copies _ := by
    have href : (eeRestart s b).eeCore.ref = eerefInit := coreInit_ref _ _
    rw [href]
    exact ⟨rfl, rfl, rfl⟩
  command := commandOpen_iff.mpr fun _ => by
    have href : (eeRestart s b).eeCore.ref = eerefInit := coreInit_ref _ _
    rw [href]
    exact .of_reset rfl rfl

/-! ## Every operation -/

section
variable {i : Instr} {s t : State}

/-- Every operation keeps storage in canonical form. -/
theorem Effect.keeps_memory (h : Effect s i t) (hs : Memory.wf s.mem = true) : Memory.wf t.mem = true := by
  cases h with
  | stored _ _ u off w | noticed _ u off w => exact storeWrite_wf u off w hs
  | restarted => rfl
  | _ => exact hs

/-- Every operation keeps the third source tied off in the ALT variant (41_irq_cause.md R72). -/
theorem Effect.keeps_tiedOff (h : Effect s i t) (hs : UnknownTiedOff s) : UnknownTiedOff t := by
  cases h with
  | latched _ _ v n u hset =>
    intro halt
    refine Bool.eq_false_iff.mpr fun hu => ?_
    rcases hset hu with hwas | hstd
    · exact nomatch (hs halt).symm.trans hwas
    · exact nomatch halt.symm.trans hstd
  | read _ v u _ hset =>
    intro halt
    refine Bool.eq_false_iff.mpr fun hu => ?_
    exact nomatch (hs halt).symm.trans (hset hu)
  | restarted => exact fun _ => rfl
  | _ => exact hs

/-- Every operation keeps the EEPROM's part: only the control writes, EV.NVLOAD and EV.RESET reach it. -/
theorem Effect.keeps_eeprom (h : Effect s i t) (hs : EepromInv s) : EepromInv t := by
  cases h with
  | driven _ _ di cs clk => exact hs.drive di cs clk
  | loaded _ b hb => exact eepromInv_eeRestart hb
  | zeroed => exact eepromInv_eeRestart List.length_replicate
  | restarted =>
    obtain ⟨harray, hcopies, hcommand⟩ := eepromInv_eeRestart (s := s) hs.array
    exact ⟨harray, hcopies, hcommand⟩
  | _ => exact ⟨hs.array, hs.copies, hs.command⟩

/-- Every operation keeps the invariant, part by part. -/
theorem Effect.keeps_inv (h : Effect s i t) (hs : Inv s) : Inv t := by
  obtain ⟨harray, hcopies, hcommand⟩ := h.keeps_eeprom ⟨hs.array, hs.copies, hs.command⟩
  exact ⟨h.keeps_memory hs.memory, h.keeps_line hs.line, h.keeps_tiedOff hs.unknown, harray, hcopies, hcommand⟩

/-- Taking an operation from the queue touches nothing the invariant speaks of. -/
theorem inv_take (hs : Inv s) (p : Presented) (rest : List Presented) : Inv (s.take p rest) :=
  ⟨hs.memory, hs.line, hs.unknown, hs.array, hs.copies, hs.command⟩

end

/-- Settles O60: a step idles, or runs one operation from the state that took it. -/
theorem everyStepKeepsTheInvariant : Obligations.EveryStepKeepsTheInvariant := by
  intro s t hs h
  obtain ⟨_, ⟨_, rfl⟩ | ⟨p, rest, _, _, _, _, _, he⟩⟩ := step_cases h
  · exact hs
  · exact (exec_effect he).keeps_inv (inv_take hs p rest)

end Sys2Proof.Machine
end

section
/-! SUPPORT. The EEPROM's signals (42_eeprom.md R85 to R88; 30_encoding.md R55, R56): which write words take effect, what the two
control writes do, and that the core, the latches and the output bit change by nothing but the four operations that drive them. -/

namespace Sys2Proof.Machine

open Sys2Proof Sys2Proof.Safety

/-! ## What leaves the EEPROM alone -/

/-- An operation that does not drive the EEPROM keeps the core and the three latches (42_eeprom.md R90 (b), (c)). -/
theorem Effect.keeps_core_and_latches {i : Instr} {s t : State} (h : Effect s i t) (hi : drivesEeprom i = false) :
    t.eeCore = s.eeCore ∧ t.eeDi = s.eeDi ∧ t.eeCs = s.eeCs ∧ t.eeClk = s.eeClk := by
  cases h with
  | driven hd =>
    obtain ⟨_, _, hdrives, _⟩ := hd
    exact nomatch hi.symm.trans hdrives
  | loaded hl | zeroed hl | restarted hl => subst hl; cases hi
  | _ => exact ⟨rfl, rfl, rfl, rfl⟩

/-- The output bit is a function of the configured core and its state (42_eeprom.md R88). -/
theorem eeDo_congr {s t : State} (hcfg : t.cfg = s.cfg) (hcore : t.eeCore = s.eeCore) : eeDo t = eeDo s := by
  rw [eeDo, hcfg, hcore, eeDo]

/-- Settles O29: the core and the latches by what the operation can do, the output bit from the core and the configuration. -/
theorem eepromChangesOnlyThroughItsSignals : Obligations.EepromChangesOnlyThroughItsSignals := by
  intro i s t hi h
  obtain ⟨hcfg, _, _⟩ := (exec_effect h).keeps_inputs
  obtain ⟨hcore, hdi, hcs, hclk⟩ := (exec_effect h).keeps_core_and_latches hi
  exact ⟨hcore, hdi, hcs, hclk, eeDo_congr hcfg hcore⟩

/-! ## The two control writes -/

/-- A standard control write takes effect where its high byte lane is selected (30_encoding.md R55). -/
theorem eeEffective_std_iff {w : Word32} : eeEffective .std w = true ↔ w.extractLsb' 24 8 = 0 := beq_iff_eq

/-- A Guwange control write takes effect where its low byte lane is selected (30_encoding.md R56). -/
theorem eeEffective_guw_iff {w : Word32} : eeEffective .guw w = true ↔ w.extractLsb' 16 8 = 0 := beq_iff_eq

/-- A control write that takes effect hands its three bits to the latches, and to the core in the order data-in, chip-select,
clock (42_eeprom.md R87). -/
theorem eeControl_eq_of_effective {l : Layout} {w : Word32} (s : State) (h : eeEffective l w = true) :
    eeControl s l w =
      { s with
        eeDi := eeDiBit l w
        eeCs := eeCsBit l w
        eeClk := eeClkBit l w
        eeCore :=
          coreSetclk s.cfg.eecore (coreSetcs s.cfg.eecore (coreWrbit s.cfg.eecore s.eeCore (eeDiBit l w)) (eeCsBit l w))
            s.eeClk (eeClkBit l w) } := by
  rw [eeControl_of_effective s h, eeDrive_eq]

theorem exec_wrEeStd (off : Addr) (w : Word32) (s : State) : exec (.wrEeStd off w) s = .next (eeControl s .std w) := rfl

theorem exec_wrEeGuw (off : Addr) (w : Word32) (s : State) : exec (.wrEeGuw off w) s = .next (eeControl s .guw w) := rfl

/-- Settles O26: the write takes effect exactly if the high byte lane is selected, and then drives bits 11, 9 and 10. -/
theorem standardControlWriteDrivesTheThreeSignals : Obligations.StandardControlWriteDrivesTheThreeSignals := by
  intro off w s
  rw [exec_wrEeStd]
  exact ⟨fun hlane => congrArg _ (eeControl_eq_of_effective s (eeEffective_std_iff.mpr hlane)),
    fun hlane => congrArg _ (eeControl_of_blocked s (Bool.eq_false_iff.mpr (mt eeEffective_std_iff.mp hlane)))⟩

/-- Settles O27: the write takes effect exactly if the low byte lane is selected, and then drives bits 7, 5 and 6. -/
theorem guwangeControlWriteDrivesTheThreeSignals : Obligations.GuwangeControlWriteDrivesTheThreeSignals := by
  intro off w s
  rw [exec_wrEeGuw]
  exact ⟨fun hlane => congrArg _ (eeControl_eq_of_effective s (eeEffective_guw_iff.mpr hlane)),
    fun hlane => congrArg _ (eeControl_of_blocked s (Bool.eq_false_iff.mpr (mt eeEffective_guw_iff.mp hlane)))⟩

end Sys2Proof.Machine
end

section
/-! SUPPORT. The input compositor (43_input_compositor.md R110 to R116; 30_encoding.md R58): which row each offset of the two input
windows selects, and what each of the rows returns. -/

namespace Sys2Proof.Machine

open Sys2Proof

/-! ## The offsets of the windows -/

section
variable (in1 : Addr) (u : Nat)

/-- A read of the standard window, by its offset (30_encoding.md R60 rows 8 to 10). -/
theorem decode_inputStd (off : Addr) : decode in1 (readTxn .inputStd u off) =
    .ok (if off = 0 then .rdInStdP0 else if off = 2 then .rdInStdP1e else .rdInStdZero off) := by
  rw [decode_readTxn, decodeRead_inputStd]

/-- A read of the Guwange window, by its offset (30_encoding.md R60 rows 11 to 13): port 0 comes before `IN1_OFF`. -/
theorem decode_inputGuw (off : Addr) : decode in1 (readTxn .inputGuw u off) =
    .ok (if off = 0 then .rdInGuwP0 else if off = in1 then .rdInGuwP1e else .rdInGuwZero off) := by
  rw [decode_readTxn, decodeRead_inputGuw]

end

/-! ## What the rows return -/

section
variable (s : State)

theorem exec_rdInStdP0 : exec .rdInStdP0 s = .next (s.answer s.env.in0) := rfl

theorem exec_rdInGuwP0 : exec .rdInGuwP0 s = .next (s.answer s.env.in0) := rfl

/-- The standard layout merges the output bit at bit 11 (43_input_compositor.md R112). -/
theorem exec_rdInStdP1e :
    exec .rdInStdP1e s = .next (s.answer (s.env.in1 ||| ((BitVec.ofBool (eeDo s)).setWidth 16 <<< 11))) := rfl

/-- Guwange's layout merges the output bit at bit 7 (43_input_compositor.md R115). -/
theorem exec_rdInGuwP1e :
    exec .rdInGuwP1e s = .next (s.answer (s.env.in1 ||| ((BitVec.ofBool (eeDo s)).setWidth 16 <<< 7))) := rfl

theorem exec_rdInStdZero (off : Addr) : exec (.rdInStdZero off) s = .next (s.answer 0x0000) := rfl

theorem exec_rdInGuwZero (off : Addr) : exec (.rdInGuwZero off) s = .next (s.answer 0x0000) := rfl

end

/-! ## The two windows -/

/-- Settles O36: the offset selects the row, and each row only answers. -/
theorem standardInputReads : Obligations.StandardInputReads := by
  intro in1 u s
  have hport1 : decode in1 (readTxn .inputStd u 2) = .ok .rdInStdP1e := by
    rw [decode_inputStd, if_neg (by decide), if_pos rfl]
  have hzero (off : Addr) (h0 : off ≠ 0) (h2 : off ≠ 2) :
      decode in1 (readTxn .inputStd u off) = .ok (.rdInStdZero off) := by
    rw [decode_inputStd, if_neg h0, if_neg h2]
  exact ⟨decode_inputStd in1 u 0, exec_rdInStdP0 s, hport1, exec_rdInStdP1e s,
    fun off h0 h2 => ⟨hzero off h0 h2, exec_rdInStdZero s off⟩⟩

/-- Settles O37: as in the standard window; at `IN1_OFF` the row of port 1 is reached because `IN1_OFF` is not port 0's offset. -/
theorem guwangeInputReads : Obligations.GuwangeInputReads := by
  intro in1 u s hin1
  have hport1 : decode in1 (readTxn .inputGuw u in1) = .ok .rdInGuwP1e := by
    rw [decode_inputGuw, if_neg hin1, if_pos rfl]
  have hzero (off : Addr) (h0 : off ≠ 0) (h1 : off ≠ in1) :
      decode in1 (readTxn .inputGuw u off) = .ok (.rdInGuwZero off) := by
    rw [decode_inputGuw, if_neg h0, if_neg h1]
  exact ⟨decode_inputGuw in1 u 0, exec_rdInGuwP0 s, hport1, exec_rdInGuwP1e s,
    fun off h0 h1 => ⟨hzero off h0 h1, exec_rdInGuwZero s off⟩⟩

end Sys2Proof.Machine
end

section
/-! SUPPORT. The address-range multiplexer (44_dispatcher.md R121, R124): a lookup passes over the entries that do not contain the
address and stops at the first one that does, and the words the dispatcher forms from the two outcomes. -/

namespace Sys2Proof.Machine

open Sys2Proof

/-! ## The first containing entry -/

section
variable {before after : List Entry} {e : Entry} {addr : Addr}

/-- Entries that do not contain the address are passed over. -/
theorem lookup_append_of_not_contains (tab : List Entry)
    (h : ∀ x ∈ before, ¬(x.start ≤ addr.toNat ∧ addr.toNat ≤ x.stop)) : lookup (before ++ tab) addr = lookup tab addr := by
  induction before with
  | nil => rfl
  | cons x rest ih =>
    obtain ⟨hx, hrest⟩ := List.forall_mem_cons.mp h
    calc lookup (x :: rest ++ tab) addr
        = lookup (rest ++ tab) addr := if_neg (mt contains_iff.mp hx)
      _ = lookup tab addr := ih hrest

/-- Inside an entry, the offset from its start is the same in natural numbers and in 24-bit words. -/
theorem ofNat_toNat_sub_start {start : Nat} (h : start ≤ addr.toNat) :
    BitVec.ofNat 24 (addr.toNat - start) = addr - BitVec.ofNat 24 start := by
  bv_omega

/-- The first entry that contains the address gives kind and unit, and the offset from its start. -/
theorem lookup_of_first (hbefore : ∀ x ∈ before, ¬(x.start ≤ addr.toNat ∧ addr.toNat ≤ x.stop))
    (hstart : e.start ≤ addr.toNat) (hstop : addr.toNat ≤ e.stop) :
    lookup (before ++ e :: after) addr = ⟨e.kind, e.unit, addr - BitVec.ofNat 24 e.start⟩ := by
  calc lookup (before ++ e :: after) addr
      = lookup (e :: after) addr := lookup_append_of_not_contains _ hbefore
    _ = ⟨e.kind, e.unit, BitVec.ofNat 24 (addr.toNat - e.start)⟩ := if_pos (contains_iff.mpr ⟨hstart, hstop⟩)
    _ = ⟨e.kind, e.unit, addr - BitVec.ofNat 24 e.start⟩ := by rw [ofNat_toNat_sub_start hstart]

/-- With no entry that contains it, an address is its own offset in the unmapped region. -/
theorem lookup_of_no_match {tab : List Entry} (h : ∀ x ∈ tab, ¬(x.start ≤ addr.toNat ∧ addr.toNat ≤ x.stop)) :
    lookup tab addr = ⟨.unmapped, 0, addr⟩ := by
  calc lookup tab addr
      = lookup (tab ++ []) addr := by rw [List.append_nil]
    _ = ⟨.unmapped, 0, addr⟩ := lookup_append_of_not_contains [] h

end

/-! ## The words of an unmapped access -/

section
variable (addr : Addr) (w : Word32)

/-- Kind, code and zero bits of an unmapped read are all zero. -/
theorem readTxn_unmapped : readTxn .unmapped 0 addr = ⟨(0 : BitVec 8) ++ addr, 0, 0⟩ := rfl

/-- The kind bit is all that is set above the offset of an unmapped write. -/
theorem writeTxn_unmapped : writeTxn .unmapped 0 addr w = ⟨(0x40 : BitVec 8) ++ addr, 0, w⟩ := rfl

theorem decodeWrite_unmapped : decodeWrite (writeTxn .unmapped 0 addr w) = .wrUnmapped addr w := by
  simp [decodeWrite, writeTxn]

end

/-! ## The two statements -/

/-- Settles O9: the table's word is that of its lookup, which is at the first containing entry or at no match. -/
theorem dispatchSelectsFirstContainingEntry : Obligations.DispatchSelectsFirstContainingEntry := by
  refine ⟨fun c addr w before after e hbefore hstart hstop => ⟨fun htab => ?_, fun htab => ?_⟩,
    fun c addr w => ⟨fun hnone => ?_, fun hnone => ?_⟩⟩
  · exact busRead_of_lookup (htab ▸ lookup_of_first hbefore hstart hstop)
  · exact busWrite_of_lookup (htab ▸ lookup_of_first hbefore hstart hstop) w
  · exact (busRead_of_lookup (lookup_of_no_match hnone)).trans (readTxn_unmapped addr)
  · exact (busWrite_of_lookup (lookup_of_no_match hnone) w).trans (writeTxn_unmapped addr w)

/-- Settles O52: the word of no match decodes to `WR.UNMAPPED`, and that is the identity. -/
theorem unmappedWritesDoNothing : Obligations.UnmappedWritesDoNothing := by
  refine fun c addr w s => ⟨fun hnone => ?_, rfl⟩
  rw [busWrite_of_lookup (lookup_of_no_match hnone), decode_writeTxn, decodeWrite_unmapped]

end Sys2Proof.Machine
end

section
/-! SUPPORT. The plain storage regions (45_storage_and_sound.md R135 to R151, R155; 20_memory.md R33, R36): the merge as the
rule's formula and on byte stores, what a store leaves in the unit, the reads and writes that do nothing else, and what every operation
appends to the trace. -/

namespace Sys2Proof.Machine

open Sys2Proof Sys2Proof.Safety

/-! ## The output trace -/

/-- No bus read always emits: the operations that do are writes and events. -/
theorem isRead_of_alwaysEmits {i : Instr} (h : alwaysEmits i = true) : isRead i = false := by
  cases i with
  | wrVram16 | wrVram8 | wrPalette | evNvload | evNvsave => rfl
  | _ => cases h

theorem alwaysEmits_of_isRead {i : Instr} (h : isRead i = true) : alwaysEmits i = false :=
  Bool.eq_false_iff.mpr fun hemits => nomatch (isRead_of_alwaysEmits hemits).symm.trans h

/-- An operation leaves the trace as it was, or appends one call of its own (10_state.md R20). -/
theorem Effect.trace_cases {i : Instr} {s t : State} (h : Effect s i t) :
    (t.trace = s.trace ∧ alwaysEmits i = false) ∨ ∃ c, t.trace = s.trace ++ [c] ∧ emits i c = true := by
  cases h with
  | nothing _ hsilent | latched _ hsilent | stored _ hsilent => exact .inl ⟨rfl, hsilent⟩
  | answered hread | drawn hread | read hread => exact .inl ⟨rfl, alwaysEmits_of_isRead hread⟩
  | noticed _ _ _ _ _ c hc | called _ c hc => exact .inr ⟨c, rfl, hc⟩
  | driven _ hcontrol => obtain ⟨off, w, rfl | rfl⟩ := hcontrol <;> exact .inl ⟨rfl, rfl⟩
  | zeroed hl => subst hl; exact .inr ⟨.diagNvramInit, rfl, rfl⟩
  | loaded hl | restarted hl | displayed hl => subst hl; exact .inl ⟨rfl, rfl⟩

/-- Settles O13: what an operation can append, said once for all operations. -/
theorem traceGrowsByAtMostOneCall : Obligations.TraceGrowsByAtMostOneCall :=
  fun _ _ _ h => (exec_effect h).trace_cases

/-! ## The merge -/

/-- The byte-by-byte merge is the formula of 20_memory.md R36: the three operators act on each byte of a word on its own. -/
theorem mux16_eq_mergeWord (old : Word) (w : Word32) : mux16 old w = mergeWord old w := by
  have hold : old.extractLsb' 8 8 ++ old.extractLsb' 0 8 = old :=
    (BitVec.extractLsb'_append_extractLsb'_eq_extractLsb' rfl).trans BitVec.extractLsb'_eq_self
  have hlane : wLaneHi w ++ wLaneLo w = wLane w := BitVec.extractLsb'_append_extractLsb'_eq_extractLsb' rfl
  have hdata : w.extractLsb' 8 8 ++ wLowByte w = wData w := BitVec.extractLsb'_append_extractLsb'_eq_extractLsb' rfl
  rw [mux16, muxByte_eq, muxByte_eq, ← BitVec.or_append, ← BitVec.and_append, ← BitVec.and_append, ← BitVec.not_append,
    hold, hlane, hdata, mergeWord]

/-- A lane that is not written keeps its byte (20_memory.md R36). -/
theorem muxByte_kept (old new : Byte) : muxByte 0xFF old new = old := by
  rw [muxByte_eq, show ~~~(0xFF : Byte) = 0#8 from rfl, BitVec.and_zero, BitVec.or_zero]
  exact BitVec.and_allOnes

/-- A lane that is written takes the new byte (20_memory.md R36). -/
theorem muxByte_written (old new : Byte) : muxByte 0 old new = new := if_pos rfl

/-- A byte store to the even address replaces the high byte (20_memory.md R32, R36). -/
theorem mux16_evenByteStore (old : Word) (b : Byte) : mux16 old (evenByteStore b) = b ++ old.extractLsb' 0 8 := by
  obtain ⟨hhi, hlo, _, hbyte⟩ := evenByteStore_fields b
  rw [mux16, hhi, hlo, hbyte, muxByte_written, muxByte_kept]

/-- A byte store to the odd address replaces the low byte (20_memory.md R32, R36). -/
theorem mux16_oddByteStore (old : Word) (b : Byte) : mux16 old (oddByteStore b) = old.extractLsb' 8 8 ++ b := by
  obtain ⟨hhi, hlo, _, hbyte⟩ := oddByteStore_fields b
  rw [mux16, hhi, hlo, hbyte, muxByte_kept, muxByte_written]

/-! ## The two bytes of a stored word -/

section
variable {s t : State} {u : UnitId} {off : Nat} {v : Word}

theorem storedOnly_writeWord (s : State) (u : UnitId) (off : Addr) (v : Word) :
    StoredOnly s (writeWord s u off v) u off.toNat v :=
  ⟨readByte_writeWord_high s u off v, readByte_writeWord_low s u off v,
    fun _ _ hother => readByte_writeWord_other s u off v hother⟩

theorem storedOnly_storeWrite (s : State) (u : UnitId) (off : Addr) (w : Word32) :
    StoredOnly s (storeWrite s u off w) u off.toNat (mux16 (storedWord s u off) w) := storedOnly_writeWord _ _ _ _

/-- A store that leaves one of its two bytes as it was changes the other one only. -/
theorem keeps_all_but_of_storedOnly {changed kept : Nat} (h : StoredOnly s t u off v)
    (hpair : ∀ a, a = off ∨ a = off + 1 → a = changed ∨ a = kept) (hkept : readByte t u kept = readByte s u kept) :
    ∀ u' a, ¬(u' = u ∧ a = changed) → readByte t u' a = readByte s u' a := by
  obtain ⟨_, _, hother⟩ := h
  intro u' a hne
  by_cases hplace : u' = u ∧ a = kept
  · obtain ⟨rfl, rfl⟩ := hplace
    exact hkept
  · refine hother u' a fun ⟨hu, ha⟩ => ?_
    rcases hpair a ha with hchanged | hsame
    · exact hne ⟨hu, hchanged⟩
    · exact hplace ⟨hu, hsame⟩

/-- Storing a word whose low byte is the old one changes the high byte only. -/
theorem only_high_of_storedOnly {b : Byte} (h : StoredOnly s t u off (b ++ readByte s u (off + 1))) :
    readByte t u off = b ∧ ∀ u' a, ¬(u' = u ∧ a = off) → readByte t u' a = readByte s u' a :=
  have ⟨hhigh, hlow, _⟩ := h
  ⟨hhigh.trans BitVec.extractLsb'_append_eq_left,
    keeps_all_but_of_storedOnly h (fun _ => id) (hlow.trans BitVec.extractLsb'_append_eq_right)⟩

/-- Storing a word whose high byte is the old one changes the low byte only. -/
theorem only_low_of_storedOnly {b : Byte} (h : StoredOnly s t u off (readByte s u off ++ b)) :
    readByte t u (off + 1) = b ∧ ∀ u' a, ¬(u' = u ∧ a = off + 1) → readByte t u' a = readByte s u' a :=
  have ⟨hhigh, hlow, _⟩ := h
  ⟨hlow.trans BitVec.extractLsb'_append_eq_right,
    keeps_all_but_of_storedOnly h (fun _ => Or.symm) (hhigh.trans BitVec.extractLsb'_append_eq_left)⟩

end

/-! ## Plain writes -/

/-- A plain write inside its unit stores the merged word and does nothing else (45_storage_and_sound.md R155). -/
theorem writeUnit_stores {s : State} {u : UnitId} {off : Addr} (w : Word32) (hin : inUnit s.cfg u off = true) :
    ∃ t, writeUnit s u off w = .next t ∧ t = { s with mem := t.mem }
      ∧ StoredOnly s t u off.toNat (mergeWord (storedWord s u off) w) :=
  ⟨storeWrite s u off w, onUnit_of_inside _ hin, rfl, mux16_eq_mergeWord _ w ▸ storedOnly_storeWrite s u off w⟩

/-- A byte store to the even address changes the byte at the offset (45_storage_and_sound.md R138). -/
theorem storedOnly_evenByteStore (s : State) (u : UnitId) (off : Addr) (b : Byte) :
    StoredOnly s (storeWrite s u off (evenByteStore b)) u off.toNat (b ++ readByte s u (off.toNat + 1)) := by
  have hold : (storedWord s u off).extractLsb' 0 8 = readByte s u (off.toNat + 1) := BitVec.extractLsb'_append_eq_right
  rw [← hold, ← mux16_evenByteStore]
  exact storedOnly_storeWrite s u off _

/-- A byte store to the odd address changes the byte after the offset (45_storage_and_sound.md R138). -/
theorem storedOnly_oddByteStore (s : State) (u : UnitId) (off : Addr) (b : Byte) :
    StoredOnly s (storeWrite s u off (oddByteStore b)) u off.toNat (readByte s u off.toNat ++ b) := by
  have hold : (storedWord s u off).extractLsb' 8 8 = readByte s u off.toNat := BitVec.extractLsb'_append_eq_left
  rw [← hold, ← mux16_oddByteStore]
  exact storedOnly_storeWrite s u off _

/-- Settles O42: each of the four operations is the plain write of its unit. -/
theorem plainStorageWritesStoreTheMergedWord : Obligations.PlainStorageWritesStoreTheMergedWord :=
  fun _ _ w _ => ⟨writeUnit_stores w, writeUnit_stores w, writeUnit_stores w, writeUnit_stores w⟩

/-- Settles O46: the word stored differs from the old one in the byte of its lane only. -/
theorem byteStoresChangeOneByte : Obligations.ByteStoresChangeOneByte := fun u off b s hin =>
  ⟨⟨_, onUnit_of_inside _ hin, only_high_of_storedOnly (storedOnly_evenByteStore s (ramUnit u) off b)⟩,
    _, onUnit_of_inside _ hin, only_low_of_storedOnly (storedOnly_oddByteStore s (ramUnit u) off b)⟩

/-! ## Plain reads -/

/-- A plain read inside its unit answers the two bytes, high byte first, and changes nothing (45_storage_and_sound.md R155;
20_memory.md R33). -/
theorem readUnit_answers {s : State} {u : UnitId} {off : Addr} (hin : inUnit s.cfg u off = true) :
    readUnit s u off = .next { s with rdata := some (readByte s u off.toNat ++ readByte s u (off.toNat + 1)) } :=
  onUnit_of_inside _ hin

/-- Settles O40: each of the six operations is the plain read of its unit. -/
theorem storageReadsReturnTheStoredWord : Obligations.StorageReadsReturnTheStoredWord :=
  fun _ _ _ => ⟨readUnit_answers, readUnit_answers, readUnit_answers, readUnit_answers, readUnit_answers, readUnit_answers⟩

/-- Settles O39: a ROM write is the identity, and a ROM read answers the constant word of a place inside its unit. -/
theorem romReadsItsConstantAndIgnoresWrites : Obligations.RomReadsItsConstantAndIgnoresWrites :=
  fun _ _ _ _ _ => ⟨rfl, fun hin => onUnit_of_inside _ hin⟩

end Sys2Proof.Machine
end

section
/-! SUPPORT. The two events that only hand something out (46_nvram_host.md R161, R165): the array as it stands, and the video
units whole. -/

namespace Sys2Proof.Machine

open Sys2Proof

/-! ## The array -/

/-- EV.NVSAVE is one call with the array (46_nvram_host.md R161). -/
theorem exec_evNvsave (s : State) : exec .evNvsave s = .next (s.emit (.nvSaveImage s.eeCore.nv)) := rfl

/-- Settles O56: one call emitted is the trace extended, and nothing else. -/
theorem nvsaveEmitsTheArray : Obligations.NvsaveEmitsTheArray := exec_evNvsave

/-! ## The snapshot -/

/-- EV.RENDER hands over the snapshot (46_nvram_host.md R165). -/
theorem exec_evRender (s : State) : exec .evRender s = .next (s.display (snapshot s)) := rfl

/-- The renderer sees every kind of unit but the two no video is kept in (46_nvram_host.md R165). -/
theorem rendered_eq (k : UnitKind) : rendered k = (k != .rom && k != .ram) := by cases k <;> rfl

@[simp] theorem unitView_id (s : State) (d : UnitDecl) : (unitView s d).id = d.id := rfl

/-- A unit is handed over whole: as many bytes as its size (45_storage_and_sound.md R141). -/
@[simp] theorem length_unitView_bytes (s : State) (d : UnitDecl) : (unitView s d).bytes.length = d.size := by
  simp [unitView]

/-- Byte `a` of the view is byte `a` of the unit. -/
theorem unitView_bytes_getElem? (s : State) (d : UnitDecl) {a : Nat} (ha : a < d.size) :
    (unitView s d).bytes[a]? = some (readByte s d.id a) := by
  simp [unitView, ha]

/-- The snapshot lists the units that are neither ROM nor RAM, in the units' order. -/
theorem snapshot_ids (s : State) : (snapshot s).map (·.id) =
    (s.cfg.units.filter fun d => d.id.kind != .rom && d.id.kind != .ram).map (·.id) := by
  simp only [snapshot, List.map_map, Function.comp_def, unitView_id, rendered_eq]

/-- Nothing is in the snapshot but views of the configuration's units. -/
theorem exists_unit_of_mem_snapshot {s : State} {x : UnitView} (hx : x ∈ snapshot s) :
    ∃ d ∈ s.cfg.units, unitView s d = x := by
  obtain ⟨d, hd, hview⟩ := List.mem_map.mp hx
  exact ⟨d, List.mem_of_mem_filter hd, hview⟩

/-- Settles O58: the view is the snapshot, and each of its elements is the view of a unit. -/
theorem renderHandsOverEveryVideoByte : Obligations.RenderHandsOverEveryVideoByte := by
  intro s
  refine ⟨snapshot s, exec_evRender s, snapshot_ids s, fun x hx => ?_⟩
  obtain ⟨d, hd, rfl⟩ := exists_unit_of_mem_snapshot hx
  exact ⟨d, hd, unitView_id s d, length_unitView_bytes s d, fun _ ha => unitView_bytes_getElem? s d ha⟩

end Sys2Proof.Machine
end

section
/-! SUPPORT. The three interrupt sources (60_exceptions.md R172): what sets and what clears each pending flag, as the table's columns
over all operations, and that every operation leaves the flags the table says. -/

namespace Sys2Proof.Machine

open Sys2Proof

/-! ## The table, a source at a time -/

/-- The vertical-blank row: the tick sets, the acknowledging reads of the two protocols and EV.RESET clear. -/
def vblankAfter (i : Instr) (vblank : Bool) : Bool :=
  match i with
  | .evVblank => true
  | .rdCauseStdAckv | .rdCauseAltAckv | .evReset => false
  | _ => vblank

/-- The sound row: EV.SNDIRQ sets or clears with its operand, EV.RESET clears. -/
def soundAfter (i : Instr) (sound : Bool) : Bool :=
  match i with
  | .evSndirq active => active
  | .evReset => false
  | _ => sound

/-- The unknown row: EV.UNKNOWN sets in the protocol that has the source, the STD acknowledge and EV.RESET clear. -/
def unknownAfter (i : Instr) (p : Proto) (unknown : Bool) : Bool :=
  match i with
  | .evUnknown => unknown || decide (p = .std)
  | .rdCauseStdAcku | .evReset => false
  | _ => unknown

/-! ## The operations against the table -/

/-- The pending flags of `t` are those the table gives for operation `i` in state `s`. -/
structure FlagsFollow (i : Instr) (s t : State) : Prop where
  vblank  : t.vblankPending = vblankAfter i s.vblankPending
  sound   : t.soundPending = soundAfter i s.soundPending
  unknown : t.unknownPending = unknownAfter i (protoOf s.cfg.variant) s.unknownPending

/-- Every operation that answers a next state leaves the flags the table says. -/
theorem exec_flags {i : Instr} {s t : State} (h : exec i s = .next t) : FlagsFollow i s t := by
  cases i with
  | rdRom u off | rdRam u off | rdSpriteram u off | rdVram16 u off | rdVram8 u off | rdPalette u off | rdVideoregs u off
  | rdLayerctrl u off =>
    obtain ⟨_, rfl⟩ := onUnit_next.mp h
    exact ⟨rfl, rfl, rfl⟩
  | wrRam u off w | wrSpriteram u off w | wrVram16 u off w | wrVram8 u off w | wrPalette u off w | wrVideoregs u off w
  | wrLayerctrl u off w =>
    obtain ⟨_, rfl⟩ := onUnit_next.mp h
    exact ⟨rfl, rfl, rfl⟩
  | wrSndReg off w | wrSndData off w =>
    obtain rfl := Host.Outcome.next.inj h
    rcases soundWrite_cases s w _ with hw | hw <;> rw [hw] <;> exact ⟨rfl, rfl, rfl⟩
  | wrEeStd off w | wrEeGuw off w =>
    obtain rfl := Host.Outcome.next.inj h
    rcases eeControl_cases s _ w with hw | ⟨_, _, _, hw⟩ <;> rw [hw] <;> exact ⟨rfl, rfl, rfl⟩
  | evUnknown =>
    obtain rfl := Host.Outcome.next.inj ((exec_evUnknown_eq s).symm.trans h)
    exact ⟨rfl, rfl, rfl⟩
  | evNvload hasImage =>
    cases hasImage with
    | false => cases h; exact ⟨rfl, rfl, rfl⟩
    | true =>
      by_cases hl : s.env.image.length = s.cfg.nvBytes
      · obtain rfl := Host.Outcome.next.inj ((exec_evNvload_of_image hl).symm.trans h)
        exact ⟨rfl, rfl, rfl⟩
      · exact nomatch (exec_evNvload_of_badImage hl).symm.trans h
  | _ => cases h; exact ⟨rfl, rfl, rfl⟩

/-! ## The operations that change a flag -/

section
variable {i : Instr}

theorem vblankAfter_of_ne {v : Bool} (h : vblankAfter i v ≠ v) :
    (i = .evVblank ∧ vblankAfter i v = true)
      ∨ ((i = .rdCauseStdAckv ∨ i = .rdCauseAltAckv ∨ i = .evReset) ∧ vblankAfter i v = false) := by
  cases i with
  | evVblank => exact .inl ⟨rfl, rfl⟩
  | rdCauseStdAckv => exact .inr ⟨.inl rfl, rfl⟩
  | rdCauseAltAckv => exact .inr ⟨.inr (.inl rfl), rfl⟩
  | evReset => exact .inr ⟨.inr (.inr rfl), rfl⟩
  | _ => exact absurd rfl h

theorem soundAfter_of_ne {n : Bool} (h : soundAfter i n ≠ n) :
    i = .evSndirq (soundAfter i n) ∨ (i = .evReset ∧ soundAfter i n = false) := by
  cases i with
  | evSndirq active => exact .inl rfl
  | evReset => exact .inr ⟨rfl, rfl⟩
  | _ => exact absurd rfl h

theorem unknownAfter_of_ne {p : Proto} {u : Bool} (h : unknownAfter i p u ≠ u) :
    (i = .evUnknown ∧ p = .std ∧ unknownAfter i p u = true)
      ∨ ((i = .rdCauseStdAcku ∨ i = .evReset) ∧ unknownAfter i p u = false) := by
  cases i with
  | evUnknown =>
    by_cases hstd : p = .std
    · exact .inl ⟨rfl, hstd, by simp [unknownAfter, hstd]⟩
    · exact absurd (by simp [unknownAfter, hstd]) h
  | rdCauseStdAcku => exact .inr ⟨.inl rfl, rfl⟩
  | evReset => exact .inr ⟨.inr rfl, rfl⟩
  | _ => exact absurd rfl h

end

/-- Settles O20: the flags after an operation are those of the table, whose entries are read off a source at a time. -/
theorem onlyTheNamedOperationsChangeAFlag : Obligations.OnlyTheNamedOperationsChangeAFlag := by
  intro i s t h
  obtain ⟨hvblank, hsound, hunknown⟩ := exec_flags h
  rw [hvblank, hsound, hunknown]
  exact ⟨vblankAfter_of_ne, soundAfter_of_ne, unknownAfter_of_ne⟩

end Sys2Proof.Machine
end

section
/-! SUPPORT. The reference core between clock edges (42_eeprom.md R87, R91, R96 to R100): what a drive does to it without an edge,
with chip-select asserted, and at an edge, and when its array can change. -/

namespace Sys2Proof.Machine

open Sys2Proof Sys2Proof.Safety

/-! ## One drive -/

/-- What a drive does to the reference core's array: only the clock's setter reaches it (42_eeprom.md R87). -/
theorem eeDrive_nv {s : State} (hk : s.cfg.eecore = .eeref) (di cs clk : Bool) :
    (eeDrive s di cs clk).eeCore.nv =
      (eerefSetclk s.eeCore.nv (eerefSetcs (eerefWrbit s.eeCore.ref di) cs) s.eeClk clk).1 := by
  simp only [eeDrive_eq, hk, coreSetclk, coreSetcs, coreWrbit]

/-- Without a rising edge, or with chip-select asserted, the clock's setter takes the level and nothing else (42_eeprom.md
R98). -/
theorem eerefSetclk_of_not_edge {nv : List Byte} {r : EeRef} {old new : Bool}
    (h : ¬(old = false ∧ new = true ∧ r.cs = false)) : eerefSetclk nv r old new = (nv, { r with clk := new }) := if_neg h

/-- A rising edge while chip-select is released clocks one bit (42_eeprom.md R98). -/
theorem eerefSetclk_of_edge {nv : List Byte} {r : EeRef} {old new : Bool} (h : old = false ∧ new = true ∧ r.cs = false) :
    eerefSetclk nv r old new = eerefClockEdge nv { r with clk := new } := if_pos h

/-! ## Control writes at one clock level -/

/-- The two states have made no clock edge between them: clock latch, array, output register and lock are the same, and a command
being entered has at most been dropped. -/
structure NoEdge (s t : State) : Prop where
  cfg    : t.cfg = s.cfg
  clk    : t.eeClk = s.eeClk
  nv     : t.eeCore.nv = s.eeCore.nv
  dout   : t.eeCore.ref.dout = s.eeCore.ref.dout
  locked : t.eeCore.ref.locked = s.eeCore.ref.locked
  sr     : t.eeCore.ref.sr = s.eeCore.ref.sr ∨ t.eeCore.ref.sr = []

theorem NoEdge.refl (s : State) : NoEdge s s := ⟨rfl, rfl, rfl, rfl, rfl, .inl rfl⟩

theorem NoEdge.trans {s t u : State} (h : NoEdge s t) (h' : NoEdge t u) : NoEdge s u where
  cfg := h'.cfg.trans h.cfg
  clk := h'.clk.trans h.clk
  nv := h'.nv.trans h.nv
  dout := h'.dout.trans h.dout
  locked := h'.locked.trans h.locked
  sr := by
    rcases h'.sr with hsame | hempty
    · rw [hsame]
      exact h.sr
    · exact .inr hempty

/-- A drive at the clock's present level makes no edge (42_eeprom.md R91, R98). -/
theorem noEdge_eeDrive {s : State} (hk : s.cfg.eecore = .eeref) (di cs : Bool) : NoEdge s (eeDrive s di cs s.eeClk) := by
  have hlevel (r : EeRef) : ¬(s.eeClk = false ∧ s.eeClk = true ∧ r.cs = false) := by simp +contextual
  have hnv := eeDrive_nv hk di cs s.eeClk
  have href := eeDrive_ref hk di cs s.eeClk
  rw [eerefSetclk_of_not_edge (hlevel _)] at hnv href
  refine ⟨rfl, rfl, hnv, ?_, ?_, ?_⟩ <;> rw [href]
  · cases cs <;> rfl
  · cases cs <;> rfl
  · cases cs
    · exact .inl rfl
    · exact .inr rfl

/-- An EEPROM control write of either layout at offset 0. -/
def controlWrite (p : Layout × Word32) : Instr :=
  match p.1 with
  | .std => .wrEeStd 0 p.2
  | .guw => .wrEeGuw 0 p.2

theorem exec_controlWrite (p : Layout × Word32) (s : State) : exec (controlWrite p) s = .next (eeControl s p.1 p.2) := by
  obtain ⟨l, w⟩ := p
  cases l <;> rfl

/-- A control write whose clock bit is the clock latch makes no edge, whether it takes effect or not. -/
theorem noEdge_eeControl {s : State} (hk : s.cfg.eecore = .eeref) {l : Layout} {w : Word32} (hclk : eeClkBit l w = s.eeClk) :
    NoEdge s (eeControl s l w) := by
  cases heff : eeEffective l w with
  | false =>
    rw [eeControl_of_blocked s heff]
    exact .refl s
  | true =>
    rw [eeControl_of_effective s heff, hclk]
    exact noEdge_eeDrive hk _ _

/-- A list of control writes that all carry one clock level, the one already there, makes no edge. -/
theorem noEdge_of_runOps {s t : State} {ws : List (Layout × Word32)} (hk : s.cfg.eecore = .eeref)
    (hclk : ∀ p ∈ ws, eeClkBit p.1 p.2 = s.eeClk) (h : runOps (ws.map controlWrite) s = .next t) : NoEdge s t := by
  induction ws generalizing s with
  | nil =>
    obtain rfl := Host.Outcome.next.inj h
    exact .refl s
  | cons p rest ih =>
    obtain ⟨hp, hrest⟩ := List.forall_mem_cons.mp hclk
    have hfirst : NoEdge s (eeControl s p.1 p.2) := noEdge_eeControl hk hp
    simp only [List.map_cons, runOps, exec_controlWrite] at h
    exact hfirst.trans (ih (hfirst.cfg ▸ hk) (hfirst.clk ▸ hrest) h)

/-- Settles O30: by induction on the list of writes. -/
theorem noEdgeWithoutAClockChange : Obligations.NoEdgeWithoutAClockChange := by
  intro s t ws hk hclk h
  have hnone : NoEdge s t := noEdge_of_runOps hk hclk h
  exact ⟨hnone.clk, hnone.nv, hnone.dout, hnone.locked, hnone.sr⟩

/-! ## Chip-select asserted -/

/-- A drive that asserts chip-select resets the serial interface, at any clock levels (42_eeprom.md R97). -/
theorem interfaceReset_eeDrive {s : State} (hk : s.cfg.eecore = .eeref) (di clk : Bool) :
    InterfaceReset s (eeDrive s di true clk) := by
  have hselected : ¬(s.eeClk = false ∧ clk = true ∧ (eerefSetcs (eerefWrbit s.eeCore.ref di) true).cs = false) :=
    fun ⟨_, _, hcs⟩ => nomatch hcs
  have hnv := eeDrive_nv hk di true clk
  have href := eeDrive_ref hk di true clk
  rw [eerefSetclk_of_not_edge hselected] at hnv href
  have hdo : eeDo (eeDrive s di true clk) = true := by
    rw [eeDo, eeDrive_cfg, hk, coreRdbit, href]
    rfl
  refine ⟨rfl, ?_, ?_, hdo, hnv, ?_, rfl⟩ <;> rw [href] <;> rfl

/-- A control write that takes effect with chip-select asserted resets the serial interface. -/
theorem interfaceReset_eeControl {s : State} (hk : s.cfg.eecore = .eeref) {l : Layout} {w : Word32}
    (heff : eeEffective l w = true) (hcs : eeCsBit l w = true) : InterfaceReset s (eeControl s l w) := by
  rw [eeControl_of_effective s heff, hcs]
  exact interfaceReset_eeDrive hk _ _

/-- Settles O31: in either layout a write that takes effect hands the inverse of `EE_CS_N` to chip-select. -/
theorem eerefChipSelectResetsTheInterface : Obligations.EerefChipSelectResetsTheInterface := by
  refine fun s off w hk => ⟨fun hlane hcs => ⟨_, exec_wrEeStd off w s, ?_⟩, fun hlane hcs => ⟨_, exec_wrEeGuw off w s, ?_⟩⟩
  · exact interfaceReset_eeControl hk (eeEffective_std_iff.mpr hlane) (congrArg not hcs)
  · exact interfaceReset_eeControl hk (eeEffective_guw_iff.mpr hlane) (congrArg not hcs)

/-! ## When the array changes -/

/-- The command register is one bit short of an ERASE's 9 bits or of a WRITE's 25 (42_eeprom.md R100). -/
def OneBitShort (sr : List Bool) : Prop :=
  (sr.length = 8 ∧ eerefOpcode sr = (true, true)) ∨ (sr.length = 24 ∧ eerefOpcode sr = (false, true))

/-- A clock edge that changes the array completes an ERASE or a WRITE with writes enabled. -/
theorem eerefClockEdge_nv_ne {nv : List Byte} {r : EeRef} (h : (eerefClockEdge nv r).1 ≠ nv) :
    r.locked = false ∧ OneBitShort r.sr := by
  unfold eerefClockEdge at h
  split_ifs at h with hsending hstart
  · exact absurd rfl h
  · exact absurd rfl h
  · rcases eerefMatch_nv nv { r with sr := r.sr ++ [r.di] } with hsame | ⟨hlocked, hcommand, _⟩
    · exact absurd hsame h
    · simp only [List.length_append, List.length_singleton] at hcommand
      refine ⟨hlocked, hcommand.imp (fun ⟨hlen, hop⟩ => ⟨by omega, ?_⟩) (fun ⟨hlen, hop⟩ => ⟨by omega, ?_⟩)⟩
      all_goals rwa [eerefOpcode_append (by omega)] at hop

/-- A drive that changes the array is a rising edge with chip-select released that completes an ERASE or a WRITE, with writes
enabled. -/
theorem eeDrive_nv_ne {s : State} (hk : s.cfg.eecore = .eeref) {di cs clk : Bool}
    (h : (eeDrive s di cs clk).eeCore.nv ≠ s.eeCore.nv) :
    s.eeClk = false ∧ clk = true ∧ cs = false ∧ s.eeCore.ref.locked = false ∧ OneBitShort s.eeCore.ref.sr := by
  rw [eeDrive_nv hk] at h
  by_cases hedge : s.eeClk = false ∧ clk = true ∧ (eerefSetcs (eerefWrbit s.eeCore.ref di) cs).cs = false
  · rw [eerefSetclk_of_edge hedge] at h
    obtain ⟨hold, hnew, hcs⟩ := hedge
    obtain ⟨_, hlevel, _⟩ := eerefSetcs_levels (eerefWrbit s.eeCore.ref di) cs
    obtain rfl : cs = false := hlevel.symm.trans hcs
    obtain ⟨hlocked, hshort⟩ := eerefClockEdge_nv_ne h
    exact ⟨hold, hnew, rfl, hlocked, hshort⟩
  · rw [eerefSetclk_of_not_edge hedge] at h
    exact absurd rfl h

/-- Settles O35: of the operations only a drive, an EV.NVLOAD and an EV.RESET reach the core, and EV.RESET keeps the array. -/
theorem eerefArrayChangesOnlyOnTheLastClock : Obligations.EerefArrayChangesOnlyOnTheLastClock := by
  intro i s t hk hload h hne
  cases exec_effect h with
  | driven _ hcontrol di cs clk =>
    obtain ⟨hold, rfl, rfl, hlocked, hshort⟩ := eeDrive_nv_ne hk hne
    exact ⟨hcontrol, hold, rfl, rfl, hlocked, hshort⟩
  | loaded hl => exact absurd hl (hload _)
  | zeroed hl => exact absurd hl (hload _)
  | restarted => exact absurd (eeRestart_nv _ _) hne
  | _ => exact absurd rfl hne

end Sys2Proof.Machine
end

section
/-! SUPPORT. Commands clocked into the reference core (42_eeprom.md R93 to R101): what a list of clocked bits does, the bits
a command consists of, what each command does when its last bit is in, and the read-out after READ. -/

namespace Sys2Proof.Machine

open Sys2Proof Sys2Proof.Safety

/-! ## Clocked bits -/

/-- One bit clocked into the reference core with chip-select released, as `eeDrive_clockBit` says. -/
def EeCore.clocked (c : EeCore) (b : Bool) : EeCore :=
  { c with
    nv := (eerefClockEdge c.nv { c.ref with di := b, cs := false, clk := true }).1
    ref := (eerefClockEdge c.nv { c.ref with di := b, cs := false, clk := true }).2 }

/-- A drive leaves the latches at its three levels, and touches nothing else but the core (42_eeprom.md R87). -/
theorem eeDrive_latches (s : State) (di cs clk : Bool) :
    eeDrive s di cs clk =
      { s with eeDi := di, eeCs := cs, eeClk := clk, eeCore := (eeDrive s di cs clk).eeCore } := rfl

/-- The two drives of one clocked bit, as a record update. -/
theorem eeDrive_eeDrive_eq {s : State} (hk : s.cfg.eecore = .eeref) (b : Bool) :
    eeDrive (eeDrive s b false false) b false true =
      { s with eeDi := b, eeCs := false, eeClk := true, eeCore := s.eeCore.clocked b } := by
  rw [eeDrive_latches, eeDrive_clockBit s b hk]
  rfl

/-- A list of bits clocked in completes, leaves the latches at the last bit, and does to the core what the bits do one after
another. -/
theorem runOps_clockIn (l : Layout) {bits : List Bool} (hne : bits ≠ []) {s : State} (hk : s.cfg.eecore = .eeref) :
    ∃ di, runOps (clockIn l bits) s =
      .next { s with eeDi := di, eeCs := false, eeClk := true, eeCore := bits.foldl EeCore.clocked s.eeCore } := by
  induction bits generalizing s with
  | nil => exact absurd rfl hne
  | cons b rest ih =>
    rw [runOps_clockIn_cons, eeDrive_eeDrive_eq hk, List.foldl_cons]
    by_cases hlast : rest = []
    · subst hlast
      exact ⟨b, rfl⟩
    · exact ih hlast hk

/-- The core with other bits in its command register and other level copies, and nothing else different. -/
def EeCore.withCommand (c : EeCore) (sr : List Bool) (di cs clk : Bool) : EeCore :=
  { c with ref := { c.ref with sr := sr, di := di, cs := cs, clk := clk } }

/-- What `Match` makes of a core (42_eeprom.md R100). -/
def EeCore.matched (c : EeCore) : EeCore := { c with nv := (eerefMatch c.nv c.ref).1, ref := (eerefMatch c.nv c.ref).2 }

/-- A bit clocked in while nothing is sent is appended to the command, unless it is a 0 before the start bit, and the command is
matched (42_eeprom.md R99). -/
theorem clocked_eq_matched {c : EeCore} {b : Bool} (hsending : c.ref.sending = false) (hbit : ¬(c.ref.sr = [] ∧ b = false)) :
    c.clocked b = (c.withCommand (c.ref.sr ++ [b]) b false true).matched := by
  simp only [EeCore.clocked, EeCore.matched, EeCore.withCommand, eerefClockEdge, hsending, if_neg hbit]
  rfl

/-- `Match` finds nothing to do while the command is not complete (42_eeprom.md R100). -/
theorem eerefMatch_of_commandBits {nv : List Byte} {r : EeRef} (h : CommandBits r.sr) : eerefMatch nv r = (nv, r) := by
  have hlen := h.length_le
  by_cases h9 : r.sr.length = 9
  · simp [eerefMatch, h9, h.write h9.ge]
  · have h25 : ¬(r.sr.length = 25 ∧ eerefOpcode r.sr = (false, true)) := fun ⟨hlong, _⟩ => by omega
    simp only [eerefMatch, if_neg h9, if_neg h25]

/-- Every beginning of an incomplete command is one. -/
theorem CommandBits.of_append {sr bits : List Bool} (h : CommandBits (sr ++ bits)) : CommandBits sr where
  length_le := by
    have hlen := h.length_le
    rw [List.length_append] at hlen
    omega
  start hne := by
    have hpos : 0 < sr.length := List.length_pos_iff.mpr hne
    rw [← List.getD_append sr bits false 0 hpos]
    exact h.start (by simp [hne])
  write h9 := by
    rw [← eerefOpcode_append (by omega) bits]
    exact h.write (by rw [List.length_append]; omega)

/-- The bits of an incomplete command, clocked in one after another, are what the command register gains. -/
theorem foldl_clocked_of_commandBits {c : EeCore} {bits : List Bool} (hsending : c.ref.sending = false)
    (h : CommandBits (c.ref.sr ++ bits)) :
    ∃ di cs clk, bits.foldl EeCore.clocked c = c.withCommand (c.ref.sr ++ bits) di cs clk := by
  induction bits generalizing c with
  | nil => exact ⟨c.ref.di, c.ref.cs, c.ref.clk, by rw [List.append_nil]; rfl⟩
  | cons b rest ih =>
    rw [List.append_cons] at h ⊢
    have hone : CommandBits (c.ref.sr ++ [b]) := h.of_append
    have hbit : ¬(c.ref.sr = [] ∧ b = false) := by
      rintro ⟨hempty, rfl⟩
      simpa [hempty] using hone.start
    have hclocked : c.clocked b = c.withCommand (c.ref.sr ++ [b]) b false true := by
      rw [clocked_eq_matched hsending hbit, EeCore.matched, eerefMatch_of_commandBits hone]
    rw [List.foldl_cons, hclocked]
    exact ih hsending h

/-! ## A complete command -/

/-- The bits of a complete command: a start bit first, and nine bits, or twenty-five of a WRITE (42_eeprom.md R100). -/
structure CompleteCommand (cmd : List Bool) : Prop where
  start  : cmd.getD 0 false = true
  length : cmd.length = 9 ∨ (cmd.length = 25 ∧ eerefOpcode cmd = (false, true))

/-- One bit short of a complete command the command is incomplete. -/
theorem CompleteCommand.commandBits {sr : List Bool} {b : Bool} (h : CompleteCommand (sr ++ [b])) : CommandBits sr := by
  have hlen : (sr ++ [b]).length = sr.length + 1 := List.length_append
  refine ⟨by rcases h.length with h9 | ⟨h25, _⟩ <;> omega, fun hne => ?_, fun hlong => ?_⟩
  · rw [← List.getD_append sr [b] false 0 (List.length_pos_iff.mpr hne)]
    exact h.start
  · rcases h.length with h9 | ⟨_, hop⟩
    · omega
    · rwa [eerefOpcode_append (by omega)] at hop

/-- A complete command clocked into a waiting core is matched when its last bit is in. -/
theorem foldl_clocked_of_completeCommand {c : EeCore} {cmd : List Bool} (hsr : c.ref.sr = []) (hsending : c.ref.sending = false)
    (h : CompleteCommand cmd) : ∃ di, cmd.foldl EeCore.clocked c = (c.withCommand cmd di false true).matched := by
  rcases List.eq_nil_or_concat' cmd with rfl | ⟨sr, b, rfl⟩
  · exact nomatch h.start
  · have hbits : CommandBits (c.ref.sr ++ sr) := by simpa [hsr] using h.commandBits
    obtain ⟨di, cs, clk, hentered⟩ := foldl_clocked_of_commandBits hsending hbits
    have hlen : sr.length ≠ 0 := by
      have := h.length
      simp only [List.length_append, List.length_singleton] at this
      omega
    have hbit : ¬(sr = [] ∧ b = false) := fun ⟨hempty, _⟩ => hlen (by simp [hempty])
    rw [hsr, List.nil_append] at hentered
    rw [List.foldl_append, hentered]
    exact ⟨b, clocked_eq_matched hsending hbit⟩

/-- A complete command clocked into a waiting reference core completes, with the latches at the last bit and the command
matched. -/
theorem runOps_completeCommand (l : Layout) {s : State} (hidle : EerefIdle s) {cmd : List Bool} (h : CompleteCommand cmd) :
    ∃ di di', runOps (clockIn l cmd) s =
      .next { s with
        eeDi := di
        eeCs := false
        eeClk := true
        eeCore := (s.eeCore.withCommand cmd di' false true).matched } := by
  obtain ⟨hk, _, hsr, hsending⟩ := hidle
  have hne : cmd ≠ [] := by
    rintro rfl
    exact nomatch h.start
  obtain ⟨di, hrun⟩ := runOps_clockIn l hne hk
  obtain ⟨di', hcore⟩ := foldl_clocked_of_completeCommand hsr hsending h
  exact ⟨di, di', hcore ▸ hrun⟩

/-! ## The fields of a command -/

theorem length_msbFirst {w : Nat} (n : Nat) (v : BitVec w) : (msbFirst n v).length = n := by simp [msbFirst]

theorem msbFirst_succ {w : Nat} (n : Nat) (v : BitVec w) : msbFirst (n + 1) v = v.getLsbD n :: msbFirst n v := by
  simp only [msbFirst, List.range_succ_eq_map, List.map_cons, List.map_map]
  congr 1
  refine List.map_congr_left fun i _ => ?_
  simp only [Function.comp_apply]
  congr 1
  omega

/-- The first bit of a number counts as often as the others can. -/
theorem bitsToNat_cons (b : Bool) (bits : List Bool) : bitsToNat (b :: bits) = b.toNat * 2 ^ bits.length + bitsToNat bits := by
  have hacc (n : Nat) : bits.foldl (fun m c => 2 * m + c.toNat) n = n * 2 ^ bits.length + bitsToNat bits := by
    unfold bitsToNat
    induction bits generalizing n with
    | nil => simp
    | cons c rest ih =>
      rw [List.foldl_cons, List.foldl_cons, ih (2 * n + c.toNat), ih (2 * 0 + c.toNat), List.length_cons, Nat.pow_succ]
      ring
  simpa [bitsToNat] using hacc b.toNat

/-- The bits of a value, most significant first, spell its remainder. -/
theorem bitsToNat_msbFirst {w : Nat} (n : Nat) (v : BitVec w) : bitsToNat (msbFirst n v) = v.toNat % 2 ^ n := by
  induction n with
  | zero => simp [msbFirst, bitsToNat, Nat.mod_one]
  | succ n ih =>
    rw [msbFirst_succ, bitsToNat_cons, length_msbFirst, ih, Nat.mod_pow_succ, BitVec.getLsbD, Nat.toNat_testBit]
    ring

/-- The six bits after start bit and opcode are the address (42_eeprom.md R100). -/
theorem eerefAddress_of_bits {cmd : List Bool} {a : BitVec 6} (h : (cmd.drop 3).take 6 = msbFirst 6 a) :
    eerefAddress cmd = a.toNat := by
  rw [eerefAddress, h, bitsToNat_msbFirst]
  exact Nat.mod_eq_of_lt a.isLt

/-- The sixteen bits after the address are the data (42_eeprom.md R100). -/
theorem eerefData_writeCommand (a : BitVec 6) (d : Word) : eerefData (writeCommand a d) = d := by
  have hbits : ((writeCommand a d).drop 9).take 16 = msbFirst 16 d := by simp [writeCommand, length_msbFirst]
  rw [eerefData, hbits, bitsToNat_msbFirst, Nat.mod_eq_of_lt d.isLt, BitVec.ofNat_toNat, BitVec.setWidth_eq]

/-! ## What each command does -/

/-- The four commands with opcode 00: two bits say which, four are of no account (42_eeprom.md R100). -/
def controlCommand (p q : Bool) (x : BitVec 4) : List Bool := [true, false, false, p, q] ++ msbFirst 4 x

theorem enableCommand_eq (x : BitVec 4) : enableCommand x = controlCommand true true x := rfl

theorem disableCommand_eq (x : BitVec 4) : disableCommand x = controlCommand false false x := rfl

theorem allCommand_eq (b : Bool) (x : BitVec 4) : allCommand b x = controlCommand b (!b) x := rfl

theorem length_readCommand (a : BitVec 6) : (readCommand a).length = 9 := by simp [readCommand, length_msbFirst]

theorem length_eraseCommand (a : BitVec 6) : (eraseCommand a).length = 9 := by simp [eraseCommand, length_msbFirst]

theorem length_writeCommand (a : BitVec 6) (d : Word) : (writeCommand a d).length = 25 := by
  simp [writeCommand, length_msbFirst]

theorem length_controlCommand (p q : Bool) (x : BitVec 4) : (controlCommand p q x).length = 9 := by
  simp [controlCommand, length_msbFirst]

theorem completeCommand_read (a : BitVec 6) : CompleteCommand (readCommand a) := ⟨rfl, .inl (length_readCommand a)⟩

theorem completeCommand_erase (a : BitVec 6) : CompleteCommand (eraseCommand a) := ⟨rfl, .inl (length_eraseCommand a)⟩

theorem completeCommand_write (a : BitVec 6) (d : Word) : CompleteCommand (writeCommand a d) :=
  ⟨rfl, .inr ⟨length_writeCommand a d, rfl⟩⟩

theorem completeCommand_control (p q : Bool) (x : BitVec 4) : CompleteCommand (controlCommand p q x) :=
  ⟨rfl, .inl (length_controlCommand p q x)⟩

section
variable (nv : List Byte) (r : EeRef)

/-- READ loads the output register with a dummy 0 and the word, and starts sending (42_eeprom.md R100, R101). -/
theorem eerefMatch_readCommand {a : BitVec 6} (h : r.sr = readCommand a) :
    eerefMatch nv r = (nv, { r with dout := (0 : BitVec 1) ++ eerefWord nv a.toNat, sending := true, sr := [] }) := by
  have hop : eerefOpcode (readCommand a) = (true, false) := rfl
  have haddr : eerefAddress (readCommand a) = a.toNat := eerefAddress_of_bits (by simp [readCommand, length_msbFirst])
  simp only [eerefMatch, h, length_readCommand, hop, haddr, if_true]

/-- ERASE stores all ones at the word, unless locked (42_eeprom.md R100). -/
theorem eerefMatch_eraseCommand {a : BitVec 6} (h : r.sr = eraseCommand a) :
    eerefMatch nv r = (if r.locked then nv else eerefSetWord nv a.toNat 0xFFFF, { r with sr := [] }) := by
  have hop : eerefOpcode (eraseCommand a) = (true, true) := rfl
  have haddr : eerefAddress (eraseCommand a) = a.toNat := eerefAddress_of_bits (by simp [eraseCommand, length_msbFirst])
  simp only [eerefMatch, h, length_eraseCommand, hop, haddr, if_true]

/-- WRITE stores the data at the word, unless locked (42_eeprom.md R100). -/
theorem eerefMatch_writeCommand {a : BitVec 6} {d : Word} (h : r.sr = writeCommand a d) :
    eerefMatch nv r = (if r.locked then nv else eerefSetWord nv a.toNat d, { r with sr := [] }) := by
  have hop : eerefOpcode (writeCommand a d) = (false, true) := rfl
  have haddr : eerefAddress (writeCommand a d) = a.toNat := 
    eerefAddress_of_bits (by simp [writeCommand, length_msbFirst])
  have hshort : ¬(25 = 9) := by decide
  simp only [eerefMatch, h, length_writeCommand, hop, haddr, eerefData_writeCommand, if_neg hshort, and_self, if_true]

/-- Opcode 00 sets the lock where its two bits agree, and is over at once otherwise (42_eeprom.md R100). -/
theorem eerefMatch_controlCommand {p q : Bool} {x : BitVec 4} (h : r.sr = controlCommand p q x) :
    eerefMatch nv r = (nv, { r with locked := if p = q then !p else r.locked, sr := [] }) := by
  have hop : eerefOpcode (controlCommand p q x) = (false, false) := rfl
  have hbits : ((controlCommand p q x).getD 3 false, (controlCommand p q x).getD 4 false) = (p, q) := rfl
  simp only [eerefMatch, h, length_controlCommand, hop, hbits, if_true]
  cases p <;> cases q <;> rfl

end

/-! ## Erasing, writing and locking -/

/-- Word `a` of the array has become `v` if writes are enabled, and nothing else has changed of the array; the lock is kept. -/
structure WordStored (c c' : EeCore) (a : BitVec 6) (v : Word) : Prop where
  keeps  : c.ref.locked = true → c'.nv = c.nv
  stores : c.ref.locked = false →
    eerefWord c'.nv a.toNat = v ∧ ∀ b : BitVec 6, b ≠ a → eerefWord c'.nv b.toNat = eerefWord c.nv b.toNat
  locked : c'.ref.locked = c.ref.locked

theorem wordStored_of_nv {c c' : EeCore} {a : BitVec 6} {v : Word} (hlen : c.nv.length = 128)
    (hnv : c'.nv = if c.ref.locked then c.nv else eerefSetWord c.nv a.toNat v) (hlocked : c'.ref.locked = c.ref.locked) :
    WordStored c c' a v := by
  refine ⟨fun hlock => hnv.trans (if_pos hlock), fun hlock => ?_, hlocked⟩
  have ha := a.isLt
  rw [hnv, if_neg (Bool.eq_false_iff.mp hlock)]
  exact ⟨eerefWord_setWord_self _ v (by omega), fun b hb => eerefWord_setWord_other _ v (mt BitVec.eq_of_toNat_eq hb)⟩

/-- A command that, when it is complete, stores `v` at word `a` unless locked, leaves the core waiting with the word stored. -/
theorem runOps_storingCommand (l : Layout) {s : State} (hidle : EerefIdle s) {cmd : List Bool} (hcmd : CompleteCommand cmd)
    {a : BitVec 6} {v : Word} (hmatch : ∀ nv r, r.sr = cmd →
      eerefMatch nv r = (if r.locked then nv else eerefSetWord nv a.toNat v, { r with sr := [] })) :
    ∃ t, runOps (clockIn l cmd) s = .next t ∧ EerefIdle t
      ∧ t = { s with eeDi := t.eeDi, eeCs := false, eeClk := true, eeCore := t.eeCore }
      ∧ WordStored s.eeCore t.eeCore a v := by
  obtain ⟨di, di', hrun⟩ := runOps_completeCommand l hidle hcmd
  obtain ⟨hk, hlen, _, hsending⟩ := hidle
  rw [EeCore.matched, hmatch _ _ rfl] at hrun
  have hlen' : (if s.eeCore.ref.locked then s.eeCore.nv else eerefSetWord s.eeCore.nv a.toNat v).length = 128 := by
    split_ifs
    · exact hlen
    · rw [eerefSetWord_length, hlen]
  exact ⟨_, hrun, ⟨hk, hlen', rfl, hsending⟩, rfl, wordStored_of_nv hlen rfl rfl⟩

/-- Settles O32: WRITE is the storing command of its data. -/
theorem eerefWriteStoresTheWord : Obligations.EerefWriteStoresTheWord := by
  intro s l a d hidle
  obtain ⟨t, hrun, hwaits, hframe, hword⟩ :=
    runOps_storingCommand l hidle (completeCommand_write a d) fun _ _ => eerefMatch_writeCommand _ _
  exact ⟨t, hrun, hwaits, hframe, hword.keeps, hword.stores, hword.locked⟩

/-- The commands with opcode 00 leave the core waiting with the lock set or kept, and the array and the output register alone. -/
theorem runOps_controlCommand (l : Layout) {s : State} (hidle : EerefIdle s) (p q : Bool) (x : BitVec 4) :
    ∃ t, runOps (clockIn l (controlCommand p q x)) s = .next t ∧ EerefIdle t ∧ OnlyEepromChanged s t
      ∧ t.eeCore.ref.locked = (if p = q then !p else s.eeCore.ref.locked) ∧ t.eeCore.ref.dout = s.eeCore.ref.dout
      ∧ t.eeCore.nv = s.eeCore.nv := by
  obtain ⟨di, di', hrun⟩ := runOps_completeCommand l hidle (completeCommand_control p q x)
  obtain ⟨hk, hlen, _, hsending⟩ := hidle
  rw [EeCore.matched, eerefMatch_controlCommand _ _ rfl] at hrun
  exact ⟨_, hrun, ⟨hk, hlen, rfl, hsending⟩, rfl, rfl, rfl, rfl⟩

/-- Settles O33: ERASE is the storing command of all ones, the other three have opcode 00. -/
theorem eerefEraseLockAndAllCommands : Obligations.EerefEraseLockAndAllCommands := by
  intro s l a x b hidle
  refine ⟨?_, ?_, ?_, ?_⟩
  · obtain ⟨t, hrun, hwaits, hframe, hword⟩ :=
      runOps_storingCommand l hidle (completeCommand_erase a) fun _ _ => eerefMatch_eraseCommand _ _
    refine ⟨t, hrun, hwaits, ?_, hword.keeps, hword.stores, hword.locked⟩
    rw [OnlyEepromChanged, hframe]
  · rw [enableCommand_eq]
    obtain ⟨t, hrun, hwaits, hframe, hlocked, _, hnv⟩ := runOps_controlCommand l hidle true true x
    exact ⟨t, hrun, hwaits, hframe, hlocked, hnv⟩
  · rw [disableCommand_eq]
    obtain ⟨t, hrun, hwaits, hframe, hlocked, _, hnv⟩ := runOps_controlCommand l hidle false false x
    exact ⟨t, hrun, hwaits, hframe, hlocked, hnv⟩
  · rw [allCommand_eq]
    obtain ⟨t, hrun, hwaits, hframe, hlocked, hdout, hnv⟩ := runOps_controlCommand l hidle b (!b) x
    have hdiffer : ¬(b = !b) := by cases b <;> decide
    rw [if_neg hdiffer] at hlocked
    exact ⟨t, hrun, hwaits, hframe, hlocked, hdout, hnv⟩

/-! ## Reading -/

/-- While data is being sent, a clock shifts the output register and fills it with ones (42_eeprom.md R99). -/
theorem clocked_of_sending {c : EeCore} (b : Bool) (h : c.ref.sending = true) :
    (c.clocked b).ref.sending = true ∧ (c.clocked b).nv = c.nv
      ∧ (c.clocked b).ref.dout = (c.ref.dout <<< 1) ||| 1 := by
  simp [EeCore.clocked, eerefClockEdge, h]

/-- One shift moves every bit of the output register up by one and puts a 1 below. -/
theorem getLsbD_shiftOut (x : BitVec 17) {i : Nat} (hi : i < 17) :
    ((x <<< 1) ||| 1).getLsbD i = if i = 0 then true else x.getLsbD (i - 1) := by
  rw [BitVec.getLsbD_or, BitVec.getLsbD_shiftLeft]
  cases i with
  | zero => rfl
  | succ n => simp [hi]

/-- After any bits clocked in during a read the core still sends, the array is kept, and the output register has moved up by as
many bits, with ones below. -/
theorem foldl_clocked_of_sending {c : EeCore} (bits : List Bool) (h : c.ref.sending = true) :
    (bits.foldl EeCore.clocked c).ref.sending = true ∧ (bits.foldl EeCore.clocked c).nv = c.nv
      ∧ ∀ i, i < 17 → (bits.foldl EeCore.clocked c).ref.dout.getLsbD i =
        if i < bits.length then true else c.ref.dout.getLsbD (i - bits.length) := by
  induction bits generalizing c with
  | nil => exact ⟨h, rfl, fun i _ => by simp⟩
  | cons b rest ih =>
    obtain ⟨hsending, hnv, hdout⟩ := clocked_of_sending b h
    obtain ⟨hsending', hnv', hdout'⟩ := ih hsending
    refine ⟨hsending', hnv'.trans hnv, fun i hi => (hdout' i hi).trans ?_⟩
    rw [hdout, List.length_cons]
    by_cases hlt : i < rest.length
    · rw [if_pos hlt, if_pos (by omega)]
    · rw [if_neg hlt, getLsbD_shiftOut _ (by omega), Nat.sub_sub]
      exact if_congr (by omega) rfl rfl

/-- The output register as READ loads it: the dummy 0 above the word. -/
theorem getLsbD_dummy_append (v : Word) {i : Nat} :
    ((0 : BitVec 1) ++ v : BitVec 17).getLsbD i = if i < 16 then v.getLsbD i else false := by
  rw [BitVec.getLsbD_append]
  simp

/-- What READ leaves in a waiting core (42_eeprom.md R100). -/
theorem foldl_clocked_readCommand {c : EeCore} (hsr : c.ref.sr = []) (hsending : c.ref.sending = false) (a : BitVec 6) :
    ((readCommand a).foldl EeCore.clocked c).ref.sending = true ∧ ((readCommand a).foldl EeCore.clocked c).nv = c.nv
      ∧ ((readCommand a).foldl EeCore.clocked c).ref.dout = (0 : BitVec 1) ++ eerefWord c.nv a.toNat := by
  obtain ⟨di, hread⟩ := foldl_clocked_of_completeCommand hsr hsending (completeCommand_read a)
  rw [hread, EeCore.matched, eerefMatch_readCommand _ _ rfl]
  exact ⟨rfl, rfl, rfl⟩

/-- Settles O34: READ loads the output register, every further clock shifts it, and its top bit is the output. -/
theorem eerefReadShiftsOutTheWord : Obligations.EerefReadShiftsOutTheWord := by
  rintro s l a bits ⟨hk, _, hsr, hidle⟩
  obtain ⟨hsending, hnv, hdout⟩ := foldl_clocked_readCommand hsr hidle a
  obtain ⟨hsending', hnv', hdout'⟩ := foldl_clocked_of_sending bits hsending
  rw [← List.foldl_append] at hsending' hnv' hdout'
  obtain ⟨di, hrun⟩ := runOps_clockIn l (bits := readCommand a ++ bits) (by simp [readCommand]) hk
  refine ⟨_, hrun, hnv'.trans hnv, ?_⟩
  simp only [eeDo, hk, coreRdbit, eerefRdbit, hsending', if_true, hdout' 16 (by decide), hdout, getLsbD_dummy_append]
  by_cases hdone : 16 < bits.length
  · rw [if_pos hdone, if_neg (by omega), if_neg (by omega)]
  · by_cases hnone : bits.length = 0
    · simp [hnone]
    · rw [if_neg hdone, if_pos (by omega), if_neg hnone, if_pos (by omega)]

end Sys2Proof.Machine
end

section
/-! SUPPORT. The storage regions with a notice, the mirrored layer and the places outside a unit (45_storage_and_sound.md R143 to
R147, R155; 20_memory.md R36; 70_reset_and_hazards.md R204). -/

namespace Sys2Proof.Machine

open Sys2Proof Sys2Proof.Safety

/-! ## The merge, bit by bit -/

/-- A bit of the merged word is the old bit where its lane bit is 1, and the data bit where it is 0 (20_memory.md R36). -/
theorem getLsbD_mergeWord (old : Word) (w : Word32) {i : Nat} (hi : i < 16) :
    (mergeWord old w).getLsbD i = if w.getLsbD (16 + i) then old.getLsbD i else w.getLsbD i := by
  have hlane : (wLane w).getLsbD i = w.getLsbD (16 + i) := by simp [wLane, hi]
  have hdata : (wData w).getLsbD i = w.getLsbD i := by simp [wData, hi]
  rw [mergeWord, BitVec.getLsbD_or, BitVec.getLsbD_and, BitVec.getLsbD_and, BitVec.getLsbD_not, hlane, hdata]
  cases w.getLsbD (16 + i) <;> simp [hi]

/-- Settles O38: the byte-by-byte merge is the formula, and the formula is read off a bit at a time. -/
theorem mergeIsPerBit : Obligations.MergeIsPerBit := by
  refine fun old w => ⟨mux16_eq_mergeWord old w, fun i hi => ?_⟩
  rw [mux16_eq_mergeWord, getLsbD_mergeWord old w hi]

/-! ## Writes with a notice -/

/-- A storage write that emits a call, inside its unit, stores the merged word, appends the call and does nothing else
(45_storage_and_sound.md R143, R145, R147, R155). -/
theorem onUnit_storeWrite_emit {s : State} {u : UnitId} {off : Addr} (w : Word32) (c : Call)
    (hin : inUnit s.cfg u off = true) :
    ∃ t, onUnit s.cfg u off ((storeWrite s u off w).emit c) = .next t
      ∧ t = { s with mem := t.mem, trace := s.trace ++ [c] }
      ∧ StoredOnly s t u off.toNat (mergeWord (storedWord s u off) w) :=
  ⟨_, onUnit_of_inside _ hin, rfl, mux16_eq_mergeWord _ w ▸ storedOnly_storeWrite s u off w⟩

/-- The default tile index (00_scope.md R7). -/
theorem tileIndex_of_default {c : Config} (h : c.tileRule = .divTileBytes) (layer : Nat) (off : Addr) :
    tileIndex c layer off = off.toNat / c.tileBytes := by
  rw [tileIndex, h]

/-- Settles O43: the notice is the tile of the offset. -/
theorem linearVramWritesStoreAndMarkOneTile : Obligations.LinearVramWritesStoreAndMarkOneTile := by
  intro layer off w s hin
  obtain ⟨t, hexec, hframe, hstored⟩ := onUnit_storeWrite_emit w (.dirtyTile layer (tileIndex s.cfg layer off)) hin
  exact ⟨t, hexec, hframe, fun hrule => tileIndex_of_default hrule layer off, hstored⟩

/-- Settles O44: place and tile are those of the masked offset. -/
theorem mirroredVramWritesStoreAndMarkAtTheMaskedOffset :
    Obligations.MirroredVramWritesStoreAndMarkAtTheMaskedOffset :=
  fun _ _ w _ hin => onUnit_storeWrite_emit w _ hin

/-- Settles O45: the call carries the byte-by-byte merge, which is the formula. -/
theorem paletteWritesStoreAndForwardTheMergedWord : Obligations.PaletteWritesStoreAndForwardTheMergedWord := by
  intro u off w s hin
  rw [← mux16_eq_mergeWord]
  obtain ⟨t, hexec, hframe, hstored⟩ :=
    onUnit_storeWrite_emit w (.paletteWrite off (mergedWord s (paletteUnit u) off w)) hin
  exact ⟨t, hexec, hframe, mux16_eq_mergeWord _ w ▸ hstored⟩

/-! ## The mirrored layer -/

/-- Settles O41: the plain read at the masked offset. -/
theorem mirroredReadsUseTheMaskedOffset : Obligations.MirroredReadsUseTheMaskedOffset := fun _ _ _ => readUnit_answers

/-- Offsets one mirror apart mask to the same offset, also where their sum wraps: `2^k` divides `2^24`
(70_reset_and_hazards.md R204). -/
theorem mirrored_add_mask {c : Config} (hm : maskOk c.vram8Mask = true) (o : Addr) :
    mirrored c (o + c.vram8Mask + 1) = mirrored c o := by
  simp only [maskOk, List.any_eq_true, List.mem_range, beq_iff_eq] at hm
  obtain ⟨k, hk, hmask⟩ := hm
  have hpred : c.vram8Mask.toNat = 2 ^ (k + 1) - 1 := by omega
  have hsum : (o + c.vram8Mask + 1).toNat = (o.toNat + 2 ^ (k + 1)) % 2 ^ 24 := by
    simp only [BitVec.toNat_add, Nat.mod_add_mod, ← hmask, ← Nat.add_assoc]
    rfl
  apply BitVec.eq_of_toNat_eq
  simp only [mirrored, BitVec.toNat_and, hpred, Nat.and_two_pow_sub_one_eq_mod, hsum]
  rw [Nat.mod_mod_of_dvd _ (Nat.pow_dvd_pow 2 (by omega)), Nat.add_mod_right]

/-- Settles O47: both operations use the masked offset only. -/
theorem mirrorsAreTheSameStorage : Obligations.MirrorsAreTheSameStorage := by
  intro s layer o w hm
  have hread (o : Addr) : exec (.rdVram8 layer o) s = readUnit s (vramUnit layer) (mirrored s.cfg o) := rfl
  have hwrite (o : Addr) : exec (.wrVram8 layer o w) s = writeTile s layer (mirrored s.cfg o) w := rfl
  simp only [hread, hwrite, mirrored_add_mask hm, and_self]

/-! ## Outside the unit -/

/-- Settles O50: every storage read, and every write but ROM's, runs on its unit, the mirrored ones at the masked offset. -/
theorem storageOutsideTheUnitIsRefused : Obligations.StorageOutsideTheUnitIsRefused := by
  refine fun u off w s => ⟨fun hout => onUnit_of_outside _ hout, ?_, ?_, ?_, ?_, ?_, ?_, ?_⟩
  all_goals exact fun hout => ⟨onUnit_of_outside _ hout, onUnit_of_outside _ hout⟩

end Sys2Proof.Machine
end

section
/-! SUPPORT. What even words decode to, and the order of a table (30_encoding.md R60, R61; 20_memory.md R34; 41_irq_cause.md R79;
44_dispatcher.md R126). -/

namespace Sys2Proof

open Sys2Proof.Machine

/-! ## Even words -/

theorem evenOff_iff {off : Addr} : evenOff off = true ↔ off.getLsbD 0 = false := by
  rw [evenOff, Bool.not_eq_true']

/-- The offset of a region's word is even where the word is. -/
theorem evenOff_of_mkT {k : BitVec 2} {c : BitVec 4} {z : BitVec 2} {off : Addr} (h : (mkT k c z off).getLsbD 0 = false) :
    evenOff off = true := by
  rw [getLsbD_mkT] at h
  exact evenOff_iff.mpr h

/-- An even offset that is none of the four offsets of the cause window lies beyond it. -/
theorem beyond_window {off : Addr} (heven : evenOff off = true) (h0 : off ≠ 0) (h2 : off ≠ 2) (h4 : off ≠ 4) (h6 : off ≠ 6) :
    8 ≤ off.toNat := by
  have hmod := even_toNat (evenOff_iff.mp heven)
  bv_omega

section
variable {in1 : Addr} {off : Addr}

theorem wf_decodeRead_irqcauseStd (u : Nat) (heven : evenOff off = true) :
    (decodeRead in1 (readTxn .irqcauseStd u off)).wf in1 = true := by
  rw [decodeRead_irqcauseStd]
  split_ifs with h4 h6 hpeek
  · rfl
  · rfl
  · simpa [Instr.wf] using hpeek
  · obtain ⟨h0, h2⟩ := not_or.mp hpeek
    simp [Instr.wf, heven, beyond_window heven h0 h2 h4 h6]

theorem wf_decodeRead_irqcauseAlt (u : Nat) (heven : evenOff off = true) :
    (decodeRead in1 (readTxn .irqcauseAlt u off)).wf in1 = true := by
  rw [decodeRead_irqcauseAlt]
  split_ifs with h0 hpeek
  · rfl
  · simpa [Instr.wf, or_assoc] using hpeek
  · obtain ⟨h2, h4, h6⟩ : off ≠ 2 ∧ off ≠ 4 ∧ off ≠ 6 := by simpa using hpeek
    simp [Instr.wf, heven, beyond_window heven h0 h2 h4 h6]

theorem wf_decodeRead_inputStd (u : Nat) (heven : evenOff off = true) :
    (decodeRead in1 (readTxn .inputStd u off)).wf in1 = true := by
  rw [decodeRead_inputStd]
  split_ifs with h0 h2
  · rfl
  · rfl
  · simpa [Instr.wf, heven] using And.intro h0 h2

theorem wf_decodeRead_inputGuw (u : Nat) (heven : evenOff off = true) :
    (decodeRead in1 (readTxn .inputGuw u off)).wf in1 = true := by
  rw [decodeRead_inputGuw]
  split_ifs with h0 h1
  · rfl
  · subst h1
    simpa [Instr.wf, heven] using h0
  · simpa [Instr.wf, heven] using And.intro h0 h1

/-- A reserved read of an even word is well-formed: all of `T[29:0]` is its operand. -/
theorem wf_rdRsvd_extract {t : Word32} (hrsvd : rsvdRead (t.extractLsb' 0 30) = true) (heven : t.getLsbD 0 = false) :
    (Instr.rdRsvd (t.extractLsb' 0 30)).wf in1 = true := by
  have hbit : (t.extractLsb' 0 30).getLsbD 0 = false := by simpa using heven
  rw [Instr.wf, hrsvd, hbit]
  rfl

/-- A reserved write of an even word is well-formed: all of `T[29:0]` is its operand. -/
theorem wf_wrRsvd_extract {t : Word32} (w : Word32) (hrsvd : rsvdWrite (t.extractLsb' 0 30) = true)
    (heven : t.getLsbD 0 = false) : (Instr.wrRsvd (t.extractLsb' 0 30) w).wf in1 = true := by
  have hbit : (t.extractLsb' 0 30).getLsbD 0 = false := by simpa using heven
  rw [Instr.wf, hrsvd, hbit]
  rfl

/-- A region's even read word decodes to a well-formed read. -/
theorem wf_decodeRead (k : RegionKind) (u : Nat) (heven : (mkT 0 k.code 0 off).getLsbD 0 = false) :
    (decodeRead in1 (readTxn k u off)).wf in1 = true := by
  have hoff : evenOff off = true := evenOff_of_mkT heven
  cases k with
  | irqcauseStd => exact wf_decodeRead_irqcauseStd u hoff
  | irqcauseAlt => exact wf_decodeRead_irqcauseAlt u hoff
  | inputStd => exact wf_decodeRead_inputStd u hoff
  | inputGuw => exact wf_decodeRead_inputGuw u hoff
  | eepromStd | eepromGuw =>
    simp only [decodeRead, readTxn, tCode_mkT, regionOfCode_code]
    exact wf_rdRsvd_extract (by rw [rsvdRead_extract, tCode_mkT]; simp [RegionKind.code]) heven
  | _ => simpa [decodeRead, readTxn, Instr.wf] using hoff

/-- A region's even write word decodes to a well-formed write. -/
theorem wf_decodeWrite (k : RegionKind) (u : Nat) (w : Word32) (heven : (mkT 1 k.code 0 off).getLsbD 0 = false) :
    (decodeWrite (writeTxn k u off w)).wf in1 = true := by
  have hoff : evenOff off = true := evenOff_of_mkT heven
  cases k with
  | sound =>
    rw [decodeWrite_sound]
    split_ifs with hport
    · exact Bool.and_eq_true_iff.mpr ⟨hoff, hport⟩
    · simpa [Instr.wf, hoff] using hport
  | inputStd | inputGuw | irqcauseStd | irqcauseAlt =>
    simp only [decodeWrite, writeTxn, tCode_mkT, regionOfCode_code]
    exact wf_wrRsvd_extract w (by rw [rsvdWrite_extract, tCode_mkT]; simp [RegionKind.code]) heven
  | _ => simpa [decodeWrite, writeTxn, Instr.wf] using hoff

end

/-- Every event is well-formed, whatever its word leaves open. -/
theorem wf_of_decodeEvent {in1 : Addr} {t : Word32} {i : Instr} (h : decodeEvent t = .ok i) : i.wf in1 = true := by
  unfold decodeEvent at h
  split at h <;> cases h <;> rfl

/-- Settles O4: the word by its shape. -/
theorem evenWordsDecodeWellFormed : Obligations.EvenWordsDecodeWellFormed := by
  rintro in1 ⟨t, u, w⟩ i heven h
  cases wordShape t with
  | read k off =>
    obtain rfl := Except.ok.inj ((decode_region_read in1 k off u w).symm.trans h)
    exact wf_decodeRead k u (heven (by simp))
  | write k off =>
    obtain rfl := Except.ok.inj ((decode_region_write in1 k off u w).symm.trans h)
    exact wf_decodeWrite k u w (heven (by simp))
  | rsvdRead hk hz =>
    obtain rfl := Except.ok.inj ((decode_of_rsvdRead hk hz).symm.trans h)
    exact wf_rdRsvd_extract (by rw [rsvdRead_extract, bne_iff_ne.mpr hz]; rfl) (heven (by simp [hk]))
  | rsvdWrite hk hz =>
    obtain rfl := Except.ok.inj ((decode_of_rsvdWrite hk hz).symm.trans h)
    exact wf_wrRsvd_extract w (by rw [rsvdWrite_extract, bne_iff_ne.mpr hz]; rfl) (heven (by simp [hk]))
  | event hk => exact wf_of_decodeEvent ((decode_of_event hk).symm.trans h)
  | reserved hk => exact nomatch (decode_of_reserved hk).symm.trans h

/-! ## Cause reads beyond the window -/

/-- Settles O19: an offset from 8 on is none of the window's, and both rows answer 0 with the line formed anew. -/
theorem causeReadsBeyondTheWindowReturnZero : Obligations.CauseReadsBeyondTheWindowReturnZero := by
  intro in1 off u s _ hbeyond
  have hstd : decodeRead in1 (readTxn .irqcauseStd u off) = .rdCauseStdOor off := by
    simp [decodeRead_irqcauseStd, ne_of_beyond_window hbeyond]
  have halt : decodeRead in1 (readTxn .irqcauseAlt u off) = .rdCauseAltOor off := by
    simp [decodeRead_irqcauseAlt, ne_of_beyond_window hbeyond]
  exact ⟨(decode_readTxn _ _ _ _).trans (congrArg _ hstd), (decode_readTxn _ _ _ _).trans (congrArg _ halt), rfl, rfl⟩

/-! ## The order of a table -/

/-- Settles O10: the entry one table finds is in the other, which has no other entry at that address; an address in no entry of
the one is in no entry of the other. -/
theorem tableOrderIsUnobservable : Obligations.TableOrderIsUnobservable := by
  intro tab tab' addr hdisjoint hperm
  rcases lookup_cases tab' addr with ⟨e, he, hcontains, hfound⟩ | ⟨hnone, hfound⟩
  · rw [hfound]
    exact lookup_of_mem hdisjoint (hperm.mem_iff.mpr he) hcontains
  · rw [hfound]
    refine lookup_of_no_match fun e he => ?_
    rw [← contains_iff, hnone e (hperm.mem_iff.mp he)]
    decide

end Sys2Proof
end

section
/-! SUPPORT. The sound ports, the byte lanes of a CPU store, and what EV.RESET and EV.NVLOAD leave (45_storage_and_sound.md R152 to
R154; 70_reset_and_hazards.md R190, R191, R197; 46_nvram_host.md R160). -/

namespace Sys2Proof.Machine

open Sys2Proof Sys2Proof.Safety

/-! ## The sound ports -/

section
variable (off : Addr) (s : State)

/-- The register port forwards one byte if both lanes are written, and does nothing otherwise (45_storage_and_sound.md R152). -/
theorem exec_wrSndReg (w : Word32) : exec (.wrSndReg off w) s =
    .next (if w.extractLsb' 16 16 = 0 then { s with trace := s.trace ++ [.sndRegWrite off (w.extractLsb' 0 8)] } else s) :=
  rfl

/-- The data port forwards one byte if both lanes are written, and does nothing otherwise (45_storage_and_sound.md R153). -/
theorem exec_wrSndData (w : Word32) : exec (.wrSndData off w) s =
    .next (if w.extractLsb' 16 16 = 0 then { s with trace := s.trace ++ [.sndDataWrite off (w.extractLsb' 0 8)] } else s) :=
  rfl

theorem exec_rdSndStatus : exec (.rdSndStatus off) s = .next { s with rdata := some (s.env.sndStatus.setWidth 16) } := rfl

end

theorem decodeRead_sound (in1 : Addr) (u : Nat) (off : Addr) : decodeRead in1 (readTxn .sound u off) = .rdSndStatus off := by
  simp [decodeRead, readTxn]

/-- Settles O51: bit 1 of the offset selects the port, and each port is the record update stated. -/
theorem soundPortsForwardOneByte : Obligations.SoundPortsForwardOneByte := by
  refine fun in1 u off w s => ⟨?_, ?_, exec_wrSndReg off s w, exec_wrSndData off s w, exec_rdSndStatus off s⟩
  · rw [decode_writeTxn, decodeWrite_sound]
  · rw [decode_readTxn, decodeRead_sound]

/-! ## The byte lanes of a CPU store -/

/-- A word store, which selects both lanes, takes effect in either layout. -/
theorem eeControl_wordStore (s : State) (l : Layout) (d : Word) :
    eeControl s l (wordStore d) =
      eeDrive s (eeDiBit l (wordStore d)) (eeCsBit l (wordStore d)) (eeClkBit l (wordStore d)) := by
  refine eeControl_of_effective s ?_
  cases l with
  | std => exact eeEffective_std_iff.mpr (wLaneHi_wordStore d)
  | guw => exact eeEffective_guw_iff.mpr (wLaneLo_wordStore d)

/-- A word store's data bits are the bits of its word. -/
theorem getLsbD_wordStore_of_lt (d : Word) {i : Nat} (hi : i < 16) : (wordStore d).getLsbD i = d.getLsbD i := by
  rw [getLsbD_wordStore, decide_eq_true hi, Bool.true_and]

/-- A byte store to the even address drives the standard register's signals, which are in the high byte (30_encoding.md R55). -/
theorem eeControl_std_evenByteStore (s : State) (b : Byte) :
    eeControl s .std (evenByteStore b) = eeDrive s (b.getLsbD 3) (!b.getLsbD 1) (b.getLsbD 2) := by
  obtain ⟨hhi, _, _, _⟩ := evenByteStore_fields b
  rw [eeControl_of_effective s (eeEffective_std_iff.mpr hhi)]
  simp only [eeDiBit, eeCsBit, eeClkBit, getLsbD_evenByteStore]
  rfl

/-- A byte store to the odd address drives Guwange's signals, which are in the low byte (30_encoding.md R56). -/
theorem eeControl_guw_oddByteStore (s : State) (b : Byte) :
    eeControl s .guw (oddByteStore b) = eeDrive s (b.getLsbD 7) (!b.getLsbD 5) (b.getLsbD 6) := by
  obtain ⟨_, hlo, _, _⟩ := oddByteStore_fields b
  rw [eeControl_of_effective s (eeEffective_guw_iff.mpr hlo)]
  simp only [eeDiBit, eeCsBit, eeClkBit, getLsbD_oddByteStore]
  rfl

/-- A byte store to the odd address leaves the standard register's lane unwritten. -/
theorem eeControl_std_oddByteStore (s : State) (b : Byte) : eeControl s .std (oddByteStore b) = s := by
  obtain ⟨hhi, _, _, _⟩ := oddByteStore_fields b
  refine eeControl_of_blocked s ?_
  rw [eeEffective, hhi]
  rfl

/-- A byte store to the even address leaves Guwange's lane unwritten. -/
theorem eeControl_guw_evenByteStore (s : State) (b : Byte) : eeControl s .guw (evenByteStore b) = s := by
  obtain ⟨_, hlo, _, _⟩ := evenByteStore_fields b
  refine eeControl_of_blocked s ?_
  rw [eeEffective, hlo]
  rfl

/-- A sound write does nothing unless both lanes are written. -/
theorem soundWrite_of_lane {w : Word32} (s : State) (c : Call) (h : wLane w ≠ 0) : soundWrite s w c = s := if_neg h

/-- A word store to a sound port emits its call. -/
theorem soundWrite_wordStore (s : State) (d : Word) (c : Call) : soundWrite s (wordStore d) c = s.emit c :=
  if_pos (wLane_wordStore d)

theorem wLane_evenByteStore_ne (b : Byte) : wLane (evenByteStore b) ≠ 0 := by
  obtain ⟨_, _, hlane, _⟩ := evenByteStore_fields b
  rw [hlane]
  decide

theorem wLane_oddByteStore_ne (b : Byte) : wLane (oddByteStore b) ≠ 0 := by
  obtain ⟨_, _, hlane, _⟩ := oddByteStore_fields b
  rw [hlane]
  decide

/-- Settles O28: each store by the lanes it writes and the lanes the port looks at. -/
theorem onlyTheWiredByteLanesRespond : Obligations.OnlyTheWiredByteLanesRespond := by
  intro off d b s
  have hbit {i : Nat} (hi : i < 16) : (wordStore d).getLsbD i = d.getLsbD i := getLsbD_wordStore_of_lt d hi
  have heven (c : Call) : soundWrite s (evenByteStore b) c = s := soundWrite_of_lane s c (wLane_evenByteStore_ne b)
  have hodd (c : Call) : soundWrite s (oddByteStore b) c = s := soundWrite_of_lane s c (wLane_oddByteStore_ne b)
  refine ⟨?_, congrArg _ (eeControl_std_evenByteStore s b), congrArg _ (eeControl_std_oddByteStore s b),
    ?_, congrArg _ (eeControl_guw_evenByteStore s b), congrArg _ (eeControl_guw_oddByteStore s b),
    ?_, ?_, congrArg _ (heven _), congrArg _ (hodd _), congrArg _ (heven _), congrArg _ (hodd _)⟩
  · rw [exec_wrEeStd, eeControl_wordStore, eeDiBit, eeCsBit, eeClkBit, hbit (by decide), hbit (by decide), hbit (by decide)]
  · rw [exec_wrEeGuw, eeControl_wordStore, eeDiBit, eeCsBit, eeClkBit, hbit (by decide), hbit (by decide), hbit (by decide)]
  · rw [← wLowByte_wordStore]
    exact congrArg Host.Outcome.next (soundWrite_wordStore s d _)
  · rw [← wLowByte_wordStore]
    exact congrArg Host.Outcome.next (soundWrite_wordStore s d _)

/-! ## EV.RESET -/

theorem exec_evReset (s : State) : exec .evReset s = .next (resetBlock s) := rfl

/-- The reference core's output bit is 1 after `init`: nothing is being sent (42_eeprom.md R95, R102). -/
theorem coreRdbit_coreInit_eeref (b : List Byte) : coreRdbit .eeref (coreInit .eeref b) = true := rfl

/-- After EV.RESET no byte has been written, so each is a draw of that reset (70_reset_and_hazards.md R190). -/
theorem readByte_resetBlock (s : State) (u : UnitId) (a : Nat) :
    readByte (resetBlock s) u a = Config.drawByte (s.epoch + 1) (byteAddr u a) := rfl

/-- Settles O54: EV.RESET is the record update stated. -/
theorem resetLeavesTheNamedState : Obligations.ResetLeavesTheNamedState := by
  refine fun s => ⟨resetBlock s, exec_evReset s, resetBlock_eq s, ?_, fun hk => ?_, readByte_resetBlock s⟩
  · rw [resetBlock_eq]
    exact coreInit_nv _ _
  · rw [eeDo, resetBlock_eq]
    simp only [hk]
    exact coreRdbit_coreInit_eeref _

/-! ## EV.NVLOAD -/

/-- EV.NVLOAD without an image (46_nvram_host.md R160). -/
theorem exec_evNvload_false (s : State) : exec (.evNvload false) s =
    .next (eeRestart (s.emit .diagNvramInit) (List.replicate s.cfg.nvBytes 0x00)) := rfl

/-- Settles O55: the argument and the image's length select the restart, which is the record update stated. -/
theorem nvloadReplacesTheArray : Obligations.NvloadReplacesTheArray := by
  refine fun s => ⟨fun hlen => ?_, exec_evNvload_of_badImage, ?_, coreInit_nv _⟩
  · rw [exec_evNvload_of_image hlen, eeRestart_eq]
  · rw [exec_evNvload_false, eeRestart_eq]
    rfl

end Sys2Proof.Machine
end
